-- ==== Sys2Proof/Word.lean ====
section
/-! DEFINITION. Word.lean: the word types of the block and the plainest arithmetic of spec/00_scope.md rule R22. -/

namespace Sys2Proof

/-- An operation word: every operation word is 16 bits, presented whole on its port (R90, R73). -/
abbrev Word := BitVec 16

/-- A byte: a snapshot, a reading, or one byte of the MIDI stream (R33, R35, R37, R50). -/
abbrev Byte := BitVec 8

/-- `clamp(v, lo, hi) = min(max(v, lo), hi)` on unbounded integers (R22). -/
def clampInt (v lo hi : Int) : Int := min (max v lo) hi

end Sys2Proof
end

