-- ==== Sys2Proof/Machine/Operands.lean ====
section
/-! DEFINITION. Machine/Operands.lean: the fields of the one 16-bit format and how they are read as operands
(spec/30_encoding.md R90, R91). -/

namespace Sys2Proof.Machine

/-- `op = w[15:12]` (R90). -/
def opField (w : Word) : Nat := (w.extractLsb' 12 4).toNat

/-- `idx = zext(w[11:8])` (R90, R91). -/
def idxField (w : Word) : Nat := (w.extractLsb' 8 4).toNat

/-- `data = w[7:0]` as a byte (R90). -/
def dataField (w : Word) : Byte := w.extractLsb' 0 8

/-- PSHIFT's operand `sext_8(w[7:0])` (R91). -/
def deltaField (w : Word) : Int := (dataField w).toInt

/-- `w[11:0]`, which must be zero in SCAN, TICK, POTCLR and ADVANCE (R93). -/
def lowField (w : Word) : Nat := (w.extractLsb' 0 12).toNat

/-- The word with the given fields (R90). -/
def mkWord (op idx : Nat) (data : Byte) : Word :=
  BitVec.ofNat 4 op ++ BitVec.ofNat 4 idx ++ data

end Sys2Proof.Machine
end

