-- ==== Sys2Proof/Syntax.lean ====
section
/-! DEFINITION. Syntax.lean: the twelve operations of the opcode map (spec/30_encoding.md R93), one constructor a row of
spec/opcode_table.json, the paths they travel, the command-error causes, the named registers and the key events. -/

namespace Sys2Proof

/-- The twelve operations.  `idx` and `data` operands that the spec reads as unsigned integers are `Nat`, PSHIFT's signed
delta is `Int`, and a byte that is stored or sent whole is a `Byte` (R91). -/
inductive Instr where
  /-- KEYWR g, v: write the current snapshot of one key group (R120). -/
  | keywr (g : Nat) (v : Byte)
  /-- SETWR v: write the current settings snapshot (R123). -/
  | setwr (v : Byte)
  /-- POTWR c, v: report a potentiometer reading (R126). -/
  | potwr (c : Nat) (v : Byte)
  /-- SCAN: start one scan cycle (R129). -/
  | scan
  /-- TICK: one sample tick (R200). -/
  | tick
  /-- RDREG r: read one register (R132). -/
  | rdreg (r : Nat)
  /-- VON n: create a voice (R192). -/
  | von (n : Nat)
  /-- VOFF n: destroy a voice (R195). -/
  | voff (n : Nat)
  /-- PSHIFT d: shift pitch_0 (R162). -/
  | pshift (d : Int)
  /-- POTCLR: clear the changed flags (R164). -/
  | potclr
  /-- SERTX b: send one byte (R240). -/
  | sertx (b : Byte)
  /-- ADVANCE: advance the previous snapshots (R166). -/
  | advance
deriving DecidableEq, Repr

/-- The three paths on which words reach the block (R92). -/
inductive Path where
  | host
  | timer
  | scanq
deriving DecidableEq, Repr

/-- The path column of the opcode map (R93). -/
def Instr.path : Instr → Path
  | .keywr _ _ => .host
  | .setwr _ => .host
  | .potwr _ _ => .host
  | .scan => .host
  | .tick => .timer
  | .rdreg _ => .host
  | .von _ => .scanq
  | .voff _ => .scanq
  | .pshift _ => .scanq
  | .potclr => .scanq
  | .sertx _ => .scanq
  | .advance => .scanq

/-- The `op` column of the opcode map (R93). -/
def Instr.opcode : Instr → Nat
  | .keywr _ _ => 0x1
  | .setwr _ => 0x2
  | .potwr _ _ => 0x3
  | .scan => 0x4
  | .tick => 0x5
  | .rdreg _ => 0x6
  | .von _ => 0x8
  | .voff _ => 0x9
  | .pshift _ => 0xA
  | .potclr => 0xB
  | .sertx _ => 0xC
  | .advance => 0xD

/-- The assembler form of an operation, `MNEMONIC operands` (R101): numbers decimal, PSHIFT's delta a signed decimal. -/
def Instr.asm : Instr → String
  | .keywr g v => "KEYWR " ++ toString g ++ ", " ++ toString v.toNat
  | .setwr v => "SETWR " ++ toString v.toNat
  | .potwr c v => "POTWR " ++ toString c ++ ", " ++ toString v.toNat
  | .scan => "SCAN"
  | .tick => "TICK"
  | .rdreg r => "RDREG " ++ toString r
  | .von n => "VON " ++ toString n
  | .voff n => "VOFF " ++ toString n
  | .pshift d => "PSHIFT " ++ toString d
  | .potclr => "POTCLR"
  | .sertx b => "SERTX " ++ toString b.toNat
  | .advance => "ADVANCE"

/-- The causes of a command error (R302). -/
inductive Cause where
  /-- RESERVED_OPCODE, code 1. -/
  | reservedOpcode
  /-- RESERVED_FIELD, code 2. -/
  | reservedField
  /-- INDEX_RANGE, code 3. -/
  | indexRange
  /-- WRONG_PORT, code 4. -/
  | wrongPort
deriving DecidableEq, Repr

/-- The kind of a key-transition event (R150). -/
inductive KeyKind where
  | press
  | release
deriving DecidableEq, Repr

/-- The readable registers of the register number map, each under its own name (R51). -/
inductive Reg where
  | keycur (g : Nat)
  | keyprev (g : Nat)
  | setcur
  | setprev
  | potval0
  | potval1
  | potchg
  | pitch0
  | status
  | duty
  | voicecnt
  | laststatus
  | timeLo
  | timeHi
  | voiceNote (s : Nat)
  | voicePhase (s : Nat)
  | voicePeriod (s : Nat)
deriving DecidableEq, Repr

end Sys2Proof
end

