-- ==== Sys2Proof/Decode.lean ====
section
/-! DEFINITION. Decode.lean: the decoder of spec/30_encoding.md (the match patterns of R94, the host port's checks of R98,
the micro-ops of SCANQ), and the encoder from the same patterns. -/

namespace Sys2Proof

open Sys2Proof.Machine

/-- `i` where the reserved idx field is zero, otherwise refused as RESERVED_FIELD (the "required zero bits" `[11:8]` of
R93). -/
def needIdxZero (w : Word) (i : Instr) : Except Cause Instr :=
  if idxField w = 0 then .ok i else .error .reservedField

/-- `i` where `w[11:0]` is zero, otherwise refused as RESERVED_FIELD (the "required zero bits" `[11:0]` of R93). -/
def needLowZero (w : Word) (i : Instr) : Except Cause Instr :=
  if lowField w = 0 then .ok i else .error .reservedField

/-- The operation a word stands for by the match patterns of R94, whatever path it comes on; a word that matches none is
rejected by name and is never executed as a no-op (R97). -/
def decode (w : Word) : Except Cause Instr :=
  match opField w with
  | 0x1 => .ok (.keywr (idxField w) (dataField w))
  | 0x2 => needIdxZero w (.setwr (dataField w))
  | 0x3 => .ok (.potwr (idxField w) (dataField w))
  | 0x4 => needLowZero w .scan
  | 0x5 => needLowZero w .tick
  | 0x6 => needIdxZero w (.rdreg (dataField w).toNat)
  | 0x8 => needIdxZero w (.von (dataField w).toNat)
  | 0x9 => needIdxZero w (.voff (dataField w).toNat)
  | 0xA => needIdxZero w (.pshift (deltaField w))
  | 0xB => needLowZero w .potclr
  | 0xC => needIdxZero w (.sertx (dataField w))
  | 0xD => needLowZero w .advance
  | _ => .error .reservedOpcode

/-- The reserved operation codes (R97). -/
def reservedOp (op : Nat) : Bool := op == 0x0 || op == 0x7 || op == 0xE || op == 0xF

/-- The operation codes that are legal only on the timer line or in SCANQ (R92, R98). -/
def notHostOp (op : Nat) : Bool := op == 0x5 || (0x8 ≤ op && op ≤ 0xD)

/-- The micro-operation codes (R92). -/
def microOp (op : Nat) : Bool := 0x8 ≤ op && op ≤ 0xD

/-- Decoding a word of the host port, its checks in the order of R98.  The INDEX_RANGE checks (cause 3) come last for
every command and depend on the configuration: each command's own meaning makes them. -/
def decodeHost (w : Word) : Except Cause Instr :=
  if reservedOp (opField w) then .error .reservedOpcode
  else if notHostOp (opField w) then .error .wrongPort
  else decode w

/-- The micro-operation of a word of SCANQ; `none` for a word that is no micro-op word (SCANQ never carries one,
R92). -/
def decodeMicro (w : Word) : Option Instr :=
  if microOp (opField w) then (decode w).toOption else none

/-- The words of R94 with their fields filled (R101).  A delta is its two's-complement byte. -/
def encode : Instr → Word
  | .keywr g v => mkWord 0x1 g v
  | .setwr v => mkWord 0x2 0 v
  | .potwr c v => mkWord 0x3 c v
  | .scan => mkWord 0x4 0 0
  | .tick => mkWord 0x5 0 0
  | .rdreg r => mkWord 0x6 0 (BitVec.ofNat 8 r)
  | .von n => mkWord 0x8 0 (BitVec.ofNat 8 n)
  | .voff n => mkWord 0x9 0 (BitVec.ofNat 8 n)
  | .pshift d => mkWord 0xA 0 (BitVec.ofInt 8 d)
  | .potclr => mkWord 0xB 0 0
  | .sertx b => mkWord 0xC 0 b
  | .advance => mkWord 0xD 0 0

/-- The operation the decoder reads from an instruction whose bits are `w`, numbered as spec/opcode_table.json numbers
them.  A word is presented whole (R73) and there is exactly one length, 16 bits (R100). -/
def decodeTableWord (nbits w : Nat) : Option Instr :=
  if nbits ≤ 16 then (decode (BitVec.ofNat 16 (w % 2 ^ nbits))).toOption else none

end Sys2Proof
end

