-- ==== Sys2Proof/Config.lean ====
section
/-! DEFINITION. Config.lean: the implementation parameters of spec/00_scope.md rules R5 to R19, the values the spec
leaves open (opaque constants without a body), and the test configuration CFG-T of spec/95_test_vectors.md section 0. -/

namespace Sys2Proof

/-- The run mode (R32): `Synth` is 0 and `Midi` is 1. -/
inductive RunMode where
  | synth
  | midi
deriving DecidableEq, Repr, Inhabited

/-- The process-wide wave shape (R17). -/
inductive WaveShape where
  | square
  | triangle
  | sawtooth
deriving DecidableEq, Repr, Inhabited

/-- What happens next at a step boundary: one of the three agents of R21 has its turn, or the reset input of R350 is
applied with the MODE input at a level.  The spec fixes no priority among the agents (R308), so which turn comes next is
the environment's choice. -/
inductive Turn where
  | host
  | scan
  | timer
  | reset (mode : RunMode)
deriving DecidableEq, Repr, Inhabited

/-- The identity string and revision of the block (R1). -/
def blockIdentity : String := "BriceCroix-MIDI_Keyboard/core-block"

/-- The specification revision (R1). -/
def blockRevision : String := "v7-hw1"

/-- The configuration: fixed for the block's lifetime (section 3 of spec/00_scope.md).  The defaults are the ones the
spec gives; `NOTE_NUMBER`, `PERIOD` and the other parameters without a default must be written out. -/
structure Config where
  /-- `KEYS_NUMBER` (R5). -/
  keysNumber : Nat
  /-- `NOTE_NUMBER` (R7). -/
  noteNumber : Nat
  /-- `PITCH0_RESET` (R9). -/
  pitch0Reset : Nat := 36
  /-- `MIDI_C0` (R10). -/
  midiC0 : Nat := 60
  /-- `MIDI_CHANNEL` (R11). -/
  midiChannel : Nat
  /-- `VIBRATO_EN`, potentiometer channel 0 (R13). -/
  vibratoEn : Bool
  /-- `TREMOLO_EN`, potentiometer channel 1 (R13). -/
  tremoloEn : Bool
  /-- `TIMER_RELOAD` (R14). -/
  timerReload : Nat
  /-- `AMP_Q` (R15). -/
  ampQ : Nat
  /-- `BASELINE`, default `PWM_TOP div 2` (R16). -/
  baseline : Nat := timerReload / 2
  /-- `WAVE_SHAPE` (R17). -/
  waveShape : WaveShape
  /-- `PERIOD[0..NOTE_NUMBER-1]`, the contents of the period ROM, 16 bits an entry (R18, R71, R72). -/
  period : List (BitVec 16)
  /-- `RUNNING_STATUS_ACROSS_CYCLES` (R19). -/
  runningStatusAcrossCycles : Bool := false
deriving DecidableEq, Repr

/-- `G = KEYS_NUMBER / 6`, the number of key groups (R6). -/
def Config.groups (c : Config) : Nat := c.keysNumber / 6

/-- `MAX_PITCH_0 = NOTE_NUMBER - KEYS_NUMBER` (R8). -/
def Config.maxPitch0 (c : Config) : Nat := c.noteNumber - c.keysNumber

/-- `PWM_TOP = TIMER_RELOAD` (R14). -/
def Config.pwmTop (c : Config) : Nat := c.timerReload

/-- `MAX_VOICES = PWM_TOP div AMP_Q` (R15). -/
def Config.maxVoices (c : Config) : Nat := c.pwmTop / c.ampQ

/-- Whether potentiometer channel `ch` is enabled: channel 0 is vibrato, channel 1 is tremolo (R13). -/
def Config.channelEnabled (c : Config) (ch : Nat) : Bool :=
  (ch == 0 && c.vibratoEn) || (ch == 1 && c.tremoloEn)

/-- FREE VALUE (assumption 3): the `n`-th turn once the listed turns are used up.  Nothing constrains it. -/
opaque Config.freeTurn : Nat → Turn

/-- FREE VALUE (assumption 4): the `n`-th word the host issues once the listed words are used up (R137: the host may
issue any 16-bit word).  Nothing constrains it. -/
opaque Config.freeHostWord : Nat → Word

/-- FREE VALUE (assumption 7): what the period ROM gives for an index outside `[0, NOTE_NUMBER)`, where R72 states no
contents.  Nothing constrains it. -/
opaque Config.freePeriod : Nat → BitVec 16

/-- FREE VALUE (assumption 8): `a mod 0`, for which R22 gives no value (it defines `a mod b` for `b > 0`). -/
opaque Config.freeModZero : Nat → Nat

/-- FREE VALUE (assumption 8): the contribution of a voice whose phase and period lie outside the domain
`0 <= phase < P`, `2 <= P` of R196, as a function of the shape, `AMP_Q`, the phase and the period. -/
opaque Config.freeContrib : WaveShape → Nat → Nat → Nat → Nat

/-- CFG-T, the test configuration of spec/95_test_vectors.md section 0: the one configuration the spec writes out. -/
def Config.cfgT : Config where
  keysNumber := 12
  noteNumber := 60
  midiChannel := 0
  vibratoEn := true
  tremoloEn := true
  timerReload := 255
  ampQ := 64
  waveShape := .square
  period := (List.range 60).map fun n => BitVec.ofNat 16 (2 + n % 12)

end Sys2Proof
end

