-- ==== Sys2Proof/Machine/State.lean ====
section
/-! DEFINITION. Machine/State.lean: the block's state as plain data (spec/10_state.md R30 to R50), the reasons a step can
stop, and the state after reset (R52, R350). -/

namespace Sys2Proof.Machine

/-- One entry of the voice table (R44). -/
structure Voice where
  /-- 1 = Sounding, 0 = Idle. -/
  valid : Bool
  /-- The note index of the voice. -/
  note : BitVec 8
  /-- `PERIOD[note]`, copied from the ROM when the voice is created. -/
  period : BitVec 16
  /-- The phase accumulator. -/
  phase : BitVec 16
deriving DecidableEq, Repr

/-- The Idle slot, all fields 0 (R44, R45). -/
def Voice.idle : Voice := ⟨false, 0, 0, 0⟩

/-- THE MODEL'S OWN: the environment's part of a run, as plain data (assumptions 3 and 4).  It says which turn comes
next and which words the host issues; after the listed ones come free values, counted. -/
structure Env where
  /-- The coming turns, the next one first. -/
  turns : List Turn
  /-- How many free turns have been taken. -/
  freeTurns : Nat
  /-- The words the host issues on the command port, the next (or held) one first. -/
  words : List Word
  /-- How many free host words have been issued. -/
  freeWords : Nat
deriving DecidableEq, Repr

/-- The block's state (R30), with the configuration it is built with (R20; not state, but every rule reads it), the serial
output record SEROUT (R50) and the environment's part of the run. -/
structure State where
  /-- The configuration (R5 to R19).  No operation and no reset changes it (assumption 1). -/
  cfg : Config
  /-- MODE (R32). -/
  mode : RunMode
  /-- KEYCUR[0..G-1] (R33). -/
  keycur : List Byte
  /-- KEYPREV[0..G-1] (R34). -/
  keyprev : List Byte
  /-- SETCUR (R35). -/
  setcur : Byte
  /-- SETPREV (R36). -/
  setprev : Byte
  /-- POTVAL[0], the vibrato reading (R37). -/
  potval0 : Byte
  /-- POTVAL[1], the tremolo reading (R37). -/
  potval1 : Byte
  /-- POTCHG, the changed flags (R38). -/
  potchg : BitVec 2
  /-- PITCH0 (R39). -/
  pitch0 : BitVec 8
  /-- CMDERR (R42). -/
  cmderr : Bool
  /-- ERRCAUSE (R42). -/
  errcause : BitVec 3
  /-- DUTY (R43). -/
  duty : BitVec 16
  /-- V[0..MAX_VOICES-1] (R44). -/
  voices : List Voice
  /-- T, the global sample counter (R47). -/
  time : BitVec 32
  /-- LASTSTATUS (R48). -/
  laststatus : Byte
  /-- RDATA (R49). -/
  rdata : BitVec 16
  /-- SCANQ, a list of micro-operation words (R41). -/
  scanq : List Word
  /-- SEROUT, every byte passed to the MIDI link, oldest first (R50). -/
  serout : List Byte
  /-- The environment's part of the run: the model's own. -/
  env : Env
deriving DecidableEq, Repr

/-- Why a step stops with a fault. -/
inductive Fault where
  /-- Raised by the SCAN agent's step when the word at the head of SCANQ is no micro-op word.  R92 says SCANQ never
  carries one, and no state that a run reaches holds one.  Safe. -/
  | illegalScanWord
deriving DecidableEq, Repr

/-- Why a step is refused. -/
inductive Refusal where
  /-- Raised by an arm of `exec` whose instruction has no meaning yet (no arm of this model is).  Safe. -/
  | notModelled (mnemonic : String)
  /-- Raised by `step` when the configuration is not well formed: "no reset, no step" (R20, R351).  Safe. -/
  | illFormedConfig
deriving DecidableEq, Repr

/-- What a turn comes to once the agent's next word is fetched and decoded. -/
inductive Action where
  /-- The agent has no step now (a held command, or SCAN with an empty queue): the turn passes (R23 `hold`). -/
  | idle
  /-- The reset input with the MODE input at a level (R350). -/
  | reset (m : RunMode)
  /-- A refused host word (R301). -/
  | cmdError (c : Cause)
  /-- An operation to execute. -/
  | run (i : Instr)
  /-- A word in SCANQ that is no micro-op word. -/
  | illegalScanWord
deriving DecidableEq, Repr

/-- The environment of a run with nothing listed. -/
def Env.start : Env := ⟨[], 0, [], 0⟩

/-- The block right after a reset of configuration `c` with the MODE input at level `m` (R52, R350), with nothing on the
serial link yet. -/
def State.resetWith (c : Config) (m : RunMode) : State where
  cfg := c
  mode := m
  keycur := List.replicate c.groups 0
  keyprev := List.replicate c.groups 0
  setcur := 0
  setprev := 0
  potval0 := 0
  potval1 := 0
  potchg := 0
  pitch0 := BitVec.ofNat 8 c.pitch0Reset
  cmderr := false
  errcause := 0
  duty := 0
  voices := List.replicate c.maxVoices Voice.idle
  time := 0
  laststatus := 0
  rdata := 0
  scanq := []
  serout := []
  env := Env.start

/-- The machine right after reset: CFG-T, the configuration the spec writes out, with the MODE input at 0
(assumptions 1 and 2).  A statement about reset is made of `State.resetWith`, for every configuration and mode. -/
def State.reset : State := State.resetWith Config.cfgT .synth

end Sys2Proof.Machine
end

