-- ==== Sys2Proof/Machine/Ops.lean ====
section
/-! DEFINITION. Machine/Ops.lean: the primitives of R23 over the state (one named update a register), the period ROM, the
serial output, and the command-error action, which is this block's only exception (spec/60_exceptions.md R300, R301). -/

namespace Sys2Proof.Machine

/-- `KEYCUR <- v` (R33). -/
def State.setKeycur (s : State) (v : List Byte) : State := { s with keycur := v }

/-- `KEYPREV <- v` (R34). -/
def State.setKeyprev (s : State) (v : List Byte) : State := { s with keyprev := v }

/-- `SETCUR <- v` (R35). -/
def State.setSetcur (s : State) (v : Byte) : State := { s with setcur := v }

/-- `SETPREV <- v` (R36). -/
def State.setSetprev (s : State) (v : Byte) : State := { s with setprev := v }

/-- `POTVAL[0] <- v` (R37). -/
def State.setPotval0 (s : State) (v : Byte) : State := { s with potval0 := v }

/-- `POTVAL[1] <- v` (R37). -/
def State.setPotval1 (s : State) (v : Byte) : State := { s with potval1 := v }

/-- `POTCHG <- v` (R38). -/
def State.setPotchg (s : State) (v : BitVec 2) : State := { s with potchg := v }

/-- `PITCH0 <- v` (R39). -/
def State.setPitch0 (s : State) (v : BitVec 8) : State := { s with pitch0 := v }

/-- `CMDERR <- v` (R42). -/
def State.setCmderr (s : State) (v : Bool) : State := { s with cmderr := v }

/-- `ERRCAUSE <- v` (R42). -/
def State.setErrcause (s : State) (v : BitVec 3) : State := { s with errcause := v }

/-- `DUTY <- v` (R43). -/
def State.setDuty (s : State) (v : BitVec 16) : State := { s with duty := v }

/-- `V[*] <- v` (R44). -/
def State.setVoices (s : State) (v : List Voice) : State := { s with voices := v }

/-- `T <- v` (R47). -/
def State.setTime (s : State) (v : BitVec 32) : State := { s with time := v }

/-- `LASTSTATUS <- v` (R48). -/
def State.setLaststatus (s : State) (v : Byte) : State := { s with laststatus := v }

/-- `RDATA <- v` (R49). -/
def State.setRdata (s : State) (v : BitVec 16) : State := { s with rdata := v }

/-- `SCANQ <- v` (R41). -/
def State.setScanq (s : State) (v : List Word) : State := { s with scanq := v }

/-- `SEROUT <- v` (R50). -/
def State.setSerout (s : State) (v : List Byte) : State := { s with serout := v }

/-- `the environment's part <- v`. -/
def State.setEnv (s : State) (v : Env) : State := { s with env := v }

/-- `R[POTVAL[c]] <- v` for channel 0 or 1 (R37); there is no other channel. -/
def State.setPotval (s : State) (c : Nat) (v : Byte) : State :=
  if c = 0 then s.setPotval0 v else if c = 1 then s.setPotval1 v else s

/-- The cause code recorded in ERRCAUSE (R302). -/
def causeCode : Cause → BitVec 3
  | .reservedOpcode => 1
  | .reservedField => 2
  | .indexRange => 3
  | .wrongPort => 4

/-- TAKING THE ONE EXCEPTION: `raise CmdError(cause)` (R301).  The first cause is kept; nothing else changes.  The block
has no handler, no saved registers and no return from it (R300, R310). -/
def raiseCmdError (c : Cause) (s : State) : State :=
  if s.cmderr then s else (s.setCmderr true).setErrcause (causeCode c)

/-- `Emit(b)`: append a byte to the serial output stream (R23, R50). -/
def emit (b : Byte) (s : State) : State := s.setSerout (s.serout ++ [b])

/-- `ROM_PERIOD(n)`: the period ROM gives `PERIOD[n]`; outside `[0, NOTE_NUMBER)` the spec states no contents and the value
is free (R72; assumption 7). -/
def romPeriod (c : Config) (n : Nat) : BitVec 16 :=
  match c.period[n]? with
  | some p => p
  | none => Config.freePeriod n

/-- `a mod b` for `b > 0`; R22 gives no value for `b = 0`, so that one is free (assumption 8). -/
def modPos (a b : Nat) : Nat := if b = 0 then Config.freeModZero a else a % b

/-- THE RESET INPUT with the MODE input at level `m`: every component takes its reset value.  The configuration and the
environment's part are no state of the block, and bytes already on the link stay there (R350, R50). -/
def resetBlock (m : RunMode) (s : State) : State :=
  ((State.resetWith s.cfg m).setSerout s.serout).setEnv s.env

end Sys2Proof.Machine
end

