-- ==== Sys2Proof/Machine/Detector.lean ====
section
/-! DEFINITION. Machine/Detector.lean: the detection functions of spec/41_transition_detector.md (R150, R153) and the
meanings of the detector's micro-operations PSHIFT, POTCLR and ADVANCE. -/

namespace Sys2Proof.Machine

/-- Bit `k mod 6` of snapshot `k div 6`: whether key `k` is down (R150, R33). -/
def keyDown (l : List Byte) (k : Nat) : Bool := (l.getD (k / 6) 0).getLsbD (k % 6)

/-- The event of key `k`, if its bit changed (R150). -/
def keyEvent (cur prev : List Byte) (k : Nat) : Option (KeyKind × Nat) :=
  match keyDown cur k, keyDown prev k with
  | true, false => some (.press, k)
  | false, true => some (.release, k)
  | true, true => none
  | false, false => none

/-- `KeyEvents(C, P)`: the key-transition events in ascending key index (R150, R151). -/
def keyEvents (c : Config) (cur prev : List Byte) : List (KeyKind × Nat) :=
  (List.range c.keysNumber).filterMap (keyEvent cur prev)

/-- The settings bits and their deltas, in the order of R153 and R154. -/
def settingsDeltas : List (Nat × Int) := [(0, -12), (1, 12), (2, -1), (3, 1)]

/-- `SettingsEdges(S, SP)`: the deltas of the rising edges (R153). -/
def settingsEdges (cur prev : Byte) : List Int :=
  settingsDeltas.filterMap fun (b, d) =>
    if cur.getLsbD b = true ∧ prev.getLsbD b = false then some d else none

/-- The clamped add of R162 on integers without a width. -/
def shiftPitch (c : Config) (p : BitVec 8) (d : Int) : BitVec 8 :=
  BitVec.ofInt 8 (clampInt ((p.toNat : Int) + d) 0 (c.maxPitch0 : Int))

/-- PSHIFT d (R162). -/
def execPshift (d : Int) (s : State) : Host.Outcome State Fault Refusal :=
  .next (s.setPitch0 (shiftPitch s.cfg s.pitch0 d))

/-- POTCLR (R164). -/
def execPotclr (s : State) : Host.Outcome State Fault Refusal :=
  .next (s.setPotchg 0)

/-- ADVANCE (R166).  The SCAN agent has taken the word off SCANQ already (R160). -/
def execAdvance (s : State) : Host.Outcome State Fault Refusal :=
  .next ((s.setKeyprev s.keycur).setSetprev s.setcur)

end Sys2Proof.Machine
end

