-- ==== Sys2Proof/Machine/Flags.lean ====
section
/-! DEFINITION. Machine/Flags.lean: the flags and read-only views of spec/10_state.md: BUSY, the POTCHG bits, STATUS and
VOICECNT. -/

namespace Sys2Proof.Machine

/-- BUSY is defined as `len(SCANQ) > 0` (R41). -/
def State.busy (s : State) : Bool := decide (0 < s.scanq.length)

/-- POTCHG[c] (R38). -/
def State.potFlag (s : State) (c : Nat) : Bool := s.potchg.getLsbD c

/-- `R[POTCHG] <- R[POTCHG] | (1 << c)` (R126). -/
def State.raisePotFlag (s : State) (c : Nat) : State := s.setPotchg (s.potchg ||| (1#2 <<< c))

/-- The MODE bit: 0 = Synth, 1 = Midi (R32). -/
def modeBit : RunMode → Bool
  | .synth => false
  | .midi => true

/-- STATUS is `zext_16(ERRCAUSE) << 4 | CMDERR << 2 | BUSY << 1 | MODE` (R40, R132). -/
def State.status (s : State) : BitVec 16 :=
  (s.errcause.setWidth 16 <<< 4) ||| ((BitVec.ofBool s.cmderr).setWidth 16 <<< 2) |||
    ((BitVec.ofBool s.busy).setWidth 16 <<< 1) ||| (BitVec.ofBool (modeBit s.mode)).setWidth 16

/-- VOICECNT: the number of slots with valid = 1 (R46). -/
def State.voiceCount (s : State) : Nat := s.voices.countP (fun v => v.valid)

end Sys2Proof.Machine
end

