-- ==== Sys2Proof/Machine/Midi.lean ====
section
/-! DEFINITION. Machine/Midi.lean: the byte lists that SCAN builds in MIDI mode (spec/43_midi_encoder.md R231 to R235) and
the meaning of SERTX. -/

namespace Sys2Proof.Machine

/-- The velocity constants and the controller number (R12). -/
def velOn : Byte := 0x40

/-- `VEL_OFF` (R12). -/
def velOff : Byte := 0x00

/-- `CC_VOLUME` (R12). -/
def ccVolume : Byte := 0x07

/-- A status byte: the message type with the channel in the low nibble (R11, R234, R235). -/
def statusByte (base : Byte) (c : Config) : Byte := base ||| BitVec.ofNat 8 c.midiChannel

/-- `OnQ` (R231). -/
def onQueue (es : List (KeyKind × Nat)) : List Nat :=
  es.filterMap fun (kind, k) => match kind with
    | .press => some k
    | .release => none

/-- `OffQ` (R231). -/
def offQueue (es : List (KeyKind × Nat)) : List Nat :=
  es.filterMap fun (kind, k) => match kind with
    | .press => none
    | .release => some k

/-- `NoteByte(k) = zext_8(PITCH0 + k + MIDI_C0)` (R232). -/
def noteByte (s : State) (k : Nat) : Byte := BitVec.ofNat 8 (s.pitch0.toNat + k + s.cfg.midiC0)

/-- `NOTE_ON = 0x90 | ch` (R234). -/
def noteOnStatus (c : Config) : Byte := statusByte 0x90 c

/-- `StatusPart` (R234). -/
def statusPart (s : State) : List Byte :=
  if s.cfg.runningStatusAcrossCycles = true ∧ s.laststatus = noteOnStatus s.cfg then []
  else [noteOnStatus s.cfg]

/-- `NoteMsgBytes(E)` (R233). -/
def noteMsgBytes (s : State) (es : List (KeyKind × Nat)) : List Byte :=
  if (onQueue es).length + (offQueue es).length = 0 then []
  else statusPart s
    ++ (onQueue es).flatMap (fun k => [noteByte s k, velOn])
    ++ (offQueue es).flatMap (fun k => [noteByte s k, velOff])

/-- `PotMsgBytes` (R235). -/
def potMsgBytes (s : State) : List Byte :=
  (if s.potFlag 0 then [statusByte 0xE0 s.cfg, 0x00, s.potval0] else [])
  ++ (if s.potFlag 1 then [statusByte 0xB0 s.cfg, ccVolume, s.potval1] else [])

/-- LASTSTATUS after a byte is sent: a byte with bit 7 = 1 becomes it (R240). -/
def noteStatus (b : Byte) (s : State) : State :=
  if b.getLsbD 7 then s.setLaststatus b else s

/-- SERTX b (R240). -/
def execSertx (b : Byte) (s : State) : Host.Outcome State Fault Refusal :=
  .next (noteStatus b (emit b s))

end Sys2Proof.Machine
end

