-- ==== Sys2Proof/Machine/Cycle.lean ====
section
/-! DEFINITION. Machine/Cycle.lean: the micro-operation list of a scan cycle (spec/41_transition_detector.md R170, R171;
spec/43_midi_encoder.md R236). -/

namespace Sys2Proof.Machine

/-- `SynthOps(E)`: one VON or VOFF an event, with the note index `PITCH0 + k` (R171, R155). -/
def synthOps (s : State) (es : List (KeyKind × Nat)) : List Instr :=
  es.map fun (kind, k) => match kind with
    | .press => .von (s.pitch0.toNat + k)
    | .release => .voff (s.pitch0.toNat + k)

/-- `MidiOps(E)`: one SERTX a byte, note messages before pot messages (R236). -/
def midiOps (s : State) (es : List (KeyKind × Nat)) : List Instr :=
  (noteMsgBytes s es ++ potMsgBytes s).map .sertx

/-- `BackendOps(MODE, E)` (R170). -/
def backendOps (s : State) (es : List (KeyKind × Nat)) : List Instr :=
  match s.mode with
  | .synth => synthOps s es
  | .midi => midiOps s es

/-- The operations of `CycleList(state)`, in order (R170). -/
def cycleOps (s : State) : List Instr :=
  backendOps s (keyEvents s.cfg s.keycur s.keyprev)
    ++ (settingsEdges s.setcur s.setprev).map .pshift
    ++ [.potclr, .advance]

/-- `CycleList(state)`: the words SCAN loads into SCANQ (R170, R41). -/
def cycleList (s : State) : List Word := (cycleOps s).map encode

end Sys2Proof.Machine
end

