-- ==== Sys2Proof/Machine/Registers.lean ====
section
/-! DEFINITION. Machine/Registers.lean: the register number map of spec/10_state.md R51 and `ReadReg` of R132. -/

namespace Sys2Proof.Machine

/-- The sixteen numbers from 0x10 to 0x1F (R51). -/
def fixedReg : Nat → Option Reg
  | 0x10 => some .setcur
  | 0x11 => some .setprev
  | 0x12 => some .potval0
  | 0x13 => some .potval1
  | 0x14 => some .potchg
  | 0x15 => some .pitch0
  | 0x16 => some .status
  | 0x17 => some .duty
  | 0x18 => some .voicecnt
  | 0x19 => some .laststatus
  | 0x1A => some .timeLo
  | 0x1B => some .timeHi
  | _ => none

/-- The register that R51 assigns to number `r`; `none` where `r` is unassigned. -/
def regOf (c : Config) (r : Nat) : Option Reg :=
  if r < 0x08 then (if r < c.groups then some (.keycur r) else none)
  else if r < 0x10 then (if r - 0x08 < c.groups then some (.keyprev (r - 0x08)) else none)
  else if r < 0x20 then fixedReg r
  else if r < 0x40 then (if r - 0x20 < c.maxVoices then some (.voiceNote (r - 0x20)) else none)
  else if r < 0x60 then (if r - 0x40 < c.maxVoices then some (.voicePhase (r - 0x40)) else none)
  else if r < 0x80 then (if r - 0x60 < c.maxVoices then some (.voicePeriod (r - 0x60)) else none)
  else none

/-- KEYCUR[g] or KEYPREV[g].  A snapshot list has an entry for every `g < G` in every state of the block
(assumption 9). -/
def snapshotAt (l : List Byte) (g : Nat) : Byte := l.getD g 0

/-- V[s].  The voice table has a slot for every `s < MAX_VOICES` in every state of the block (assumption 9). -/
def State.voiceAt (s : State) (i : Nat) : Voice := s.voices.getD i Voice.idle

/-- `VOICE_NOTE[s]` is `V[s].valid << 15 | V[s].note` (R132). -/
def voiceNoteWord (v : Voice) : BitVec 16 :=
  ((BitVec.ofBool v.valid).setWidth 16 <<< 15) ||| v.note.setWidth 16

/-- `zext_16(ReadReg(r))` (R132, R51). -/
def State.readReg (s : State) : Reg → BitVec 16
  | .keycur g => (snapshotAt s.keycur g).setWidth 16
  | .keyprev g => (snapshotAt s.keyprev g).setWidth 16
  | .setcur => s.setcur.setWidth 16
  | .setprev => s.setprev.setWidth 16
  | .potval0 => s.potval0.setWidth 16
  | .potval1 => s.potval1.setWidth 16
  | .potchg => s.potchg.setWidth 16
  | .pitch0 => s.pitch0.setWidth 16
  | .status => s.status
  | .duty => s.duty
  | .voicecnt => BitVec.ofNat 16 s.voiceCount
  | .laststatus => s.laststatus.setWidth 16
  | .timeLo => s.time.extractLsb' 0 16
  | .timeHi => s.time.extractLsb' 16 16
  | .voiceNote i => voiceNoteWord (s.voiceAt i)
  | .voicePhase i => (s.voiceAt i).phase
  | .voicePeriod i => (s.voiceAt i).period

end Sys2Proof.Machine
end

