-- ==== Sys2Proof/Machine/HostCommands.lean ====
section
/-! DEFINITION. Machine/HostCommands.lean: the meanings of the host commands KEYWR, SETWR, POTWR, SCAN and RDREG
(spec/40_host_interface.md), each with its INDEX_RANGE check (R98). -/

namespace Sys2Proof.Machine

/-- `zext_8(v[5:0])`: the snapshot byte KEYWR stores (R120). -/
def keyBits (v : Byte) : Byte := (v.extractLsb' 0 6).setWidth 8

/-- KEYWR g, v: refused with INDEX_RANGE when `g >= G`, otherwise `KEYCUR[g] <- zext_8(v[5:0])` (R120). -/
def execKeywr (g : Nat) (v : Byte) (s : State) : Host.Outcome State Fault Refusal :=
  if s.cfg.groups ≤ g then .next (raiseCmdError .indexRange s)
  else .next (s.setKeycur (s.keycur.set g (keyBits v)))

/-- SETWR v: `SETCUR <- v` (R123). -/
def execSetwr (v : Byte) (s : State) : Host.Outcome State Fault Refusal :=
  .next (s.setSetcur v)

/-- POTWR c, v: refused with INDEX_RANGE when `c >= 2`; an enabled channel takes the reading and sets its flag, a disabled
one is accepted and ignored (R126). -/
def execPotwr (c : Nat) (v : Byte) (s : State) : Host.Outcome State Fault Refusal :=
  if 2 ≤ c then .next (raiseCmdError .indexRange s)
  else if s.cfg.channelEnabled c then .next ((s.setPotval c v).raisePotFlag c)
  else .next s

/-- SCAN: load the cycle's micro-operation list (R129).  That it is accepted only with an empty queue is the HOST agent's
condition (R135), in Machine/Fetch.lean. -/
def execScan (s : State) : Host.Outcome State Fault Refusal :=
  .next (s.setScanq (cycleList s))

/-- RDREG r: refused with INDEX_RANGE when `r` is unassigned, otherwise `RDATA <- zext_16(ReadReg(r))` (R132). -/
def execRdreg (r : Nat) (s : State) : Host.Outcome State Fault Refusal :=
  match regOf s.cfg r with
  | some reg => .next (s.setRdata (s.readReg reg))
  | none => .next (raiseCmdError .indexRange s)

end Sys2Proof.Machine
end

