-- ==== Sys2Proof/Machine/Synth.lean ====
section
/-! DEFINITION. Machine/Synth.lean: the shape functions and the meanings of VON, VOFF and TICK
(spec/42_synthesizer.md). -/

namespace Sys2Proof.Machine

/-- Whether a slot is Sounding with note index `n` (R192, R195). -/
def soundsNote (n : Nat) (v : Voice) : Bool := v.valid && v.note.toNat == n

/-- The slot VON creates: its period from the ROM, its phase `T mod P` (R192). -/
def newVoice (c : Config) (t : BitVec 32) (n : Nat) : Voice :=
  let p := romPeriod c n
  ⟨true, BitVec.ofNat 8 n, p, BitVec.ofNat 16 (modPos t.toNat p.toNat)⟩

/-- The voice table after VON n: unchanged when the note sounds or no slot is free, otherwise the lowest free slot holds
the new voice (R192). -/
def voicesOn (c : Config) (t : BitVec 32) (n : Nat) (vs : List Voice) : List Voice :=
  if vs.any (soundsNote n) then vs
  else match vs.findIdx? (fun v => !v.valid) with
    | some i => vs.set i (newVoice c t n)
    | none => vs

/-- The voice table after VOFF n: the slot of that note is Idle (R195). -/
def voicesOff (n : Nat) (vs : List Voice) : List Voice :=
  match vs.findIdx? (soundsNote n) with
  | some i => vs.set i Voice.idle
  | none => vs

/-- `Contrib_sq` (R197). -/
def contribSquare (q ph p : Nat) : Nat := if 2 * ph < p then q else 0

/-- `Contrib_tri` (R198). -/
def contribTriangle (q ph p : Nat) : Nat :=
  if 2 * ph < p then (2 * q * ph) / p else (2 * q * (p - ph)) / p

/-- `Contrib_saw` (R199). -/
def contribSawtooth (q ph p : Nat) : Nat := (q * ph) / p

/-- `Contrib_WAVE_SHAPE(phase, P)` on the domain of R196; outside it no value is stated and it is free
(assumption 8). -/
def contrib (w : WaveShape) (q ph p : Nat) : Nat :=
  if ph < p ∧ 2 ≤ p then
    match w with
    | .square => contribSquare q ph p
    | .triangle => contribTriangle q ph p
    | .sawtooth => contribSawtooth q ph p
  else Config.freeContrib w q ph p

/-- What one slot adds to the sample: an Idle slot adds nothing (R200). -/
def voiceContrib (c : Config) (v : Voice) : Nat :=
  if v.valid then contrib c.waveShape c.ampQ v.phase.toNat v.period.toNat else 0

/-- `acc`: the sum over the slots (R200). -/
def sampleSum (c : Config) (vs : List Voice) : Nat := (vs.map (voiceContrib c)).sum

/-- `min(BASELINE + acc, PWM_TOP)` (R200). -/
def sampleDuty (c : Config) (vs : List Voice) : BitVec 16 :=
  BitVec.ofNat 16 (min (c.baseline + sampleSum c vs) c.pwmTop)

/-- `V[s].phase <- (V[s].phase + 1) mod V[s].period` for a valid slot (R200). -/
def stepPhase (v : Voice) : Voice :=
  if v.valid then { v with phase := BitVec.ofNat 16 (modPos (v.phase.toNat + 1) v.period.toNat) } else v

/-- One sample tick in Synth mode: the sample from the phases before the advance, then the advance (R200). -/
def synthTick (s : State) : State :=
  ((s.setDuty (sampleDuty s.cfg s.voices)).setVoices (s.voices.map stepPhase)).setTime (s.time + 1)

/-- VON n (R192). -/
def execVon (n : Nat) (s : State) : Host.Outcome State Fault Refusal :=
  .next (s.setVoices (voicesOn s.cfg s.time n s.voices))

/-- VOFF n (R195). -/
def execVoff (n : Nat) (s : State) : Host.Outcome State Fault Refusal :=
  .next (s.setVoices (voicesOff n s.voices))

/-- TICK: a sample in Synth mode (R200), no effect in MIDI mode (R201). -/
def execTick (s : State) : Host.Outcome State Fault Refusal :=
  match s.mode with
  | .synth => .next (synthTick s)
  | .midi => .next s

end Sys2Proof.Machine
end

