-- ==== Sys2Proof/Machine/Dispatch.lean ====
section
/-! DEFINITION. Machine/Dispatch.lean: one arm a constructor of Instr. -/

namespace Sys2Proof.Machine

def exec (i : Instr) (s : State) : Host.Outcome State Fault Refusal :=
  match i with
  | .keywr g v => Sys2Proof.Machine.execKeywr g v s
  | .setwr v => Sys2Proof.Machine.execSetwr v s
  | .potwr c v => Sys2Proof.Machine.execPotwr c v s
  | .scan => Sys2Proof.Machine.execScan s
  | .tick => Sys2Proof.Machine.execTick s
  | .rdreg r => Sys2Proof.Machine.execRdreg r s
  | .von n => Sys2Proof.Machine.execVon n s
  | .voff n => Sys2Proof.Machine.execVoff n s
  | .pshift d => Sys2Proof.Machine.execPshift d s
  | .potclr => Sys2Proof.Machine.execPotclr s
  | .sertx b => Sys2Proof.Machine.execSertx b s
  | .advance => Sys2Proof.Machine.execAdvance s

end Sys2Proof.Machine
end

