-- ==== Sys2Proof/WellFormed.lean ====
section
/-! DEFINITION. WellFormed.lean: which operations the 16-bit format can carry, which field values the spec admits in them,
and which configurations are well formed (spec/00_scope.md R20). -/

namespace Sys2Proof

/-- The operands fit their fields: `idx` is 4 bits, `data` is 8 bits, PSHIFT's delta is a signed 8-bit value
(R90, R91). -/
def Instr.wellFormed : Instr → Bool
  | .keywr g _ => decide (g < 16)
  | .setwr _ => true
  | .potwr c _ => decide (c < 16)
  | .scan => true
  | .tick => true
  | .rdreg r => decide (r < 256)
  | .von n => decide (n < 256)
  | .voff n => decide (n < 256)
  | .pshift d => decide (-128 ≤ d) && decide (d ≤ 127)
  | .potclr => true
  | .sertx _ => true
  | .advance => true

/-- The micro-operations that SCAN puts into SCANQ in a run mode, with the field values it gives them: VON and VOFF
carry `n` in `[0, NOTE_NUMBER)` and come in Synth mode, SERTX carries any byte and comes in MIDI mode, PSHIFT carries
one of four deltas (R95, R170). -/
def Instr.generated (c : Config) (m : RunMode) : Instr → Bool
  | .von n => decide (m = .synth) && decide (n < c.noteNumber)
  | .voff n => decide (m = .synth) && decide (n < c.noteNumber)
  | .pshift d => decide (d = -12) || decide (d = 12) || decide (d = -1) || decide (d = 1)
  | .potclr => true
  | .sertx _ => decide (m = .midi)
  | .advance => true
  | .keywr _ _ => false
  | .setwr _ => false
  | .potwr _ _ => false
  | .scan => false
  | .tick => false
  | .rdreg _ => false

/-- Every constraint of R5 to R19, one entry each, in the order of the rules.  The upper bound 65535 of a period is the
width of its ROM entry. -/
def Config.constraints (c : Config) : List Bool :=
  [ decide (12 ≤ c.keysNumber), decide (c.keysNumber ≤ 48), decide (c.keysNumber % 6 = 0),  -- R5
    decide (c.keysNumber ≤ c.noteNumber), decide (c.noteNumber ≤ 128),                      -- R7
    decide (c.pitch0Reset ≤ c.maxPitch0),                                                  -- R9
    decide (c.midiC0 ≤ 127),                                                               -- R10
    decide (c.midiChannel ≤ 15),                                                           -- R11
    decide (1 ≤ c.timerReload), decide (c.timerReload ≤ 65535),                             -- R14
    decide (1 ≤ c.ampQ), decide (c.ampQ ≤ c.pwmTop),                                        -- R15
    decide (1 ≤ c.maxVoices), decide (c.maxVoices ≤ 32),                                    -- R15
    decide (c.baseline ≤ c.pwmTop),                                                        -- R16
    decide (c.period.length = c.noteNumber), c.period.all (fun p => decide (2 ≤ p.toNat)) ] -- R18

/-- A configuration is well formed when every constraint of R5 to R19 holds (R20). -/
def Config.wellFormed (c : Config) : Bool := c.constraints.all id

end Sys2Proof
end

