-- ==== Sys2Proof/Machine/Fetch.lean ====
section
/-! DEFINITION. Machine/Fetch.lean: whose turn it is, how each agent's next word is taken and decoded, and how a word is
placed so that it is fetched next (spec/00_scope.md R21; spec/30_encoding.md R92, R98; R135, R160, R307). -/

namespace Sys2Proof.Machine

/-- The coming turn, and the state with it taken: the listed one, or a free one (R21, R308; assumption 3). -/
def takeTurn (s : State) : Turn × State :=
  match s.env.turns with
  | t :: ts => (t, s.setEnv { s.env with turns := ts })
  | [] => (Config.freeTurn s.env.freeTurns, s.setEnv { s.env with freeTurns := s.env.freeTurns + 1 })

/-- The word on the command port, and the state with it taken off: the listed one, or a free one (R137; assumption 4). -/
def takeHostWord (s : State) : Word × State :=
  match s.env.words with
  | w :: ws => (w, s.setEnv { s.env with words := ws })
  | [] => (Config.freeHostWord s.env.freeWords, s.setEnv { s.env with freeWords := s.env.freeWords + 1 })

/-- HOST's turn: while BUSY the command is held and stays on the port; otherwise one word is accepted and decoded
(R135, R98, R99). -/
def fetchHost (s : State) : Action × State :=
  if s.busy then (.idle, s)
  else
    let (w, s') := takeHostWord s
    match decodeHost w with
    | .ok i => (.run i, s')
    | .error c => (.cmdError c, s')

/-- SCAN's turn: it takes the head off SCANQ, and has no step when SCANQ is empty (R160). -/
def fetchScan (s : State) : Action × State :=
  match s.scanq with
  | [] => (.idle, s)
  | w :: rest =>
    match decodeMicro w with
    | some i => (.run i, s.setScanq rest)
    | none => (.illegalScanWord, s)

/-- TIMER's turn: the timer line carries only the word 0x5000, TICK (R92, R307). -/
def fetchTimer (s : State) : Action × State := (.run .tick, s)

/-- What the coming turn comes to, and the state it acts on. -/
def fetch (s : State) : Action × State :=
  match takeTurn s with
  | (.host, s') => fetchHost s'
  | (.scan, s') => fetchScan s'
  | (.timer, s') => fetchTimer s'
  | (.reset m, s') => (.reset m, s')

/-- `t` is the coming turn. -/
def State.withTurn (s : State) (t : Turn) : State := s.setEnv { s.env with turns := t :: s.env.turns }

/-- `w` is the word on the command port. -/
def State.withHostWord (s : State) (w : Word) : State := s.setEnv { s.env with words := w :: s.env.words }

/-- Place `w` where it is fetched next, on the path its operation belongs to (R92): a micro-op at the head of SCANQ with
SCAN to step, TICK on the timer line with TIMER to step, anything else on the command port, with SCANQ empty so that it is
not held, and HOST to step. -/
def placeWord (s : State) (w : Word) : State :=
  match decode w with
  | .ok i => match i.path with
    | .scanq => (s.setScanq (w :: s.scanq)).withTurn .scan
    | .timer => s.withTurn .timer
    | .host => ((s.setScanq []).withHostWord w).withTurn .host
  | .error _ => ((s.setScanq []).withHostWord w).withTurn .host

end Sys2Proof.Machine
end

