-- ==== Sys2Proof/Machine/Agents.lean ====
section
/-! DEFINITION. Machine/Agents.lean: one atomic step of the agent whose turn it is (spec/00_scope.md R21), and the
schedules of the test programs (R101, R102). -/

namespace Sys2Proof.Machine

/-- Carry out what the turn came to.  A passed turn changes nothing (R23 `hold`), a refused word records its cause and
nothing else (R98, R301), a reset resets (R350), and an operation is executed. -/
def runAction : Action → State → Host.Outcome State Fault Refusal
  | .idle, s => .next s
  | .reset m, s => .next (resetBlock m s)
  | .cmdError c, s => .next (raiseCmdError c s)
  | .run i, s => exec i s
  | .illegalScanWord, _ => .fault .illegalScanWord

/-- The coming turn, fetched and carried out in one atomic step (R21, R77). -/
def runTurn (s : State) : Host.Outcome State Fault Refusal :=
  runAction (fetch s).1 (fetch s).2

/-- One step of a well-formed block; an ill-formed configuration has no step (R20, R351). -/
def blockStep (s : State) : Host.Outcome State Fault Refusal :=
  if s.cfg.wellFormed then runTurn s else .refused .illFormedConfig

/-- Reset at power-on: defined only for a well-formed configuration (R351). -/
def powerOn (c : Config) (m : RunMode) : Option State :=
  if c.wellFormed then some (State.resetWith c m) else none

/-- SCAN-agent steps until SCANQ is empty, at most `fuel` of them, with no other agent's step between them (R102). -/
def drainScan : Nat → State → Host.Outcome State Fault Refusal
  | 0, s => .next s
  | fuel + 1, s =>
    match s.scanq with
    | [] => .next s
    | _ :: _ =>
      match runAction (fetchScan s).1 (fetchScan s).2 with
      | .next s' => drainScan fuel s'
      | .fault r => .fault r
      | .refused r => .refused r

/-- SCANSYNC: `H: SCAN`, then SCAN-agent steps until SCANQ is empty, with no TICK between them (R102).  As for SCAN, the
HOST agent issues it with SCANQ empty (R135). -/
def scanSync (s : State) : Host.Outcome State Fault Refusal :=
  match exec .scan s with
  | .next s' => drainScan s'.scanq.length s'
  | .fault r => .fault r
  | .refused r => .refused r

end Sys2Proof.Machine
end

