-- ==== Sys2Proof/Safety.lean ====
section
/-! DEFINITION. Safety.lean: what a good state is, in the terms the statements use: the ranges of spec/10_state.md, the voice
table invariants of R45, and the shape of the scan queue (R41, R95, R360). -/

namespace Sys2Proof.Machine

/-- Items 2 and 3 of R45 for one slot: a valid slot has `period = PERIOD[note]` and `phase < period`, and an Idle slot has
all fields 0. -/
def Voice.ok (c : Config) (v : Voice) : Prop :=
  (v.valid = true → c.period[v.note.toNat]? = some v.period ∧ v.phase.toNat < v.period.toNat) ∧
  (v.valid = false → v = Voice.idle)

/-- The note indices that sound, slot by slot. -/
def soundingNotes (vs : List Voice) : List Nat :=
  (vs.filter (fun v => v.valid)).map (fun v => v.note.toNat)

/-- R45 of the whole table: a slot for every index below MAX_VOICES, every slot as items 2 and 3 say, and no note index in
two valid slots (item 1).  Item 4 is the table's length. -/
structure VoiceTableOk (c : Config) (vs : List Voice) : Prop where
  size : vs.length = c.maxVoices
  slots : ∀ v ∈ vs, Voice.ok c v
  distinct : (soundingNotes vs).Nodup

/-- The longest scan queue: `2*KEYS_NUMBER + 13` words in MIDI mode and `KEYS_NUMBER + 6` in Synth mode (R360). -/
def scanqBound (c : Config) : RunMode → Nat
  | .midi => 2 * c.keysNumber + 13
  | .synth => c.keysNumber + 6

/-- The scan queue holds only micro-operation words with the fields SCAN gives them (R95), is empty or ends with its only
ADVANCE (R41), and is no longer than R360 says. -/
structure ScanqOk (c : Config) (m : RunMode) (q : List Word) : Prop where
  words : ∀ w ∈ q, (decodeMicro w).any (fun i => i.generated c m) = true
  ends : q = [] ∨ (q.getLast? = some (encode .advance) ∧ q.count (encode .advance) = 1)
  bounded : q.length ≤ scanqBound c m

/-- A snapshot register per key group, bits [7:6] of each 0 (R33, R34). -/
structure SnapshotsOk (c : Config) (l : List Byte) : Prop where
  size : l.length = c.groups
  bits : ∀ b ∈ l, b.toNat < 64

/-- The command-error registers: a cause code of 1 to 4 while CMDERR is 1, and 0 otherwise (R42, R302). -/
def ErrorOk (s : State) : Prop :=
  s.errcause.toNat ≤ 4 ∧ (s.cmderr = true ↔ s.errcause ≠ 0)

/-- A potentiometer channel that is disabled keeps its reset reading and its flag clear (R126, R235). -/
def PotsOk (s : State) : Prop :=
  (s.cfg.vibratoEn = false → s.potval0 = 0 ∧ s.potFlag 0 = false) ∧
  (s.cfg.tremoloEn = false → s.potval1 = 0 ∧ s.potFlag 1 = false)

/-- The backend that is not the run mode's own is at rest: in MIDI mode no voice sounds and DUTY and T are 0, in Synth mode
no status byte has been sent (R32 "never both active", R201). -/
def OtherBackendIdle (s : State) : Prop :=
  (s.mode = .midi → (∀ v ∈ s.voices, v = Voice.idle) ∧ s.duty = 0 ∧ s.time = 0) ∧
  (s.mode = .synth → s.laststatus = 0)

/-- A good state of the block. -/
structure State.Inv (s : State) : Prop where
  cfg : s.cfg.wellFormed = true
  keycur : SnapshotsOk s.cfg s.keycur
  keyprev : SnapshotsOk s.cfg s.keyprev
  pitch0 : s.pitch0.toNat ≤ s.cfg.maxPitch0
  errors : ErrorOk s
  pots : PotsOk s
  duty : s.duty.toNat ≤ s.cfg.pwmTop
  voices : VoiceTableOk s.cfg s.voices
  laststatus : s.laststatus = 0 ∨ s.laststatus.getLsbD 7 = true
  scanq : ScanqOk s.cfg s.mode s.scanq
  otherBackend : OtherBackendIdle s

/-- `V[s].phase = T mod V[s].period` for every Sounding voice (R202). -/
def PhasesLocked (s : State) : Prop :=
  ∀ v ∈ s.voices, v.valid = true → v.phase.toNat = s.time.toNat % v.period.toNat

/-- The premise R301 names for claims: no command error has been recorded. -/
def NoCommandError (s : State) : Prop := s.cmderr = false

/-- The next step is a reset (R350). -/
def ResetIsNext (s : State) : Prop := ∃ m, (takeTurn s).1 = .reset m

end Sys2Proof.Machine
end

