-- ==== Sys2Proof/Certificates/Slice0/Obligations.lean ====
section
/-! DEFINITION. Certificates/Slice0/Obligations.lean: the statements for the provers.  Each docstring names the rule of spec/
it formalises; what a statement says of the model's own choices, it says so. -/

open Sys2Proof Sys2Proof.Machine

/-- CMDERR and ERRCAUSE after an error of the given code, the first cause being kept, and nothing else changed (R301). -/
def firstCauseRecorded (code : BitVec 3) (s : State) : State :=
  if s.cmderr = true then s else { s with cmderr := true, errcause := code }

/-- `s` with its first listed turn used. -/
def turnUsed (s : State) (ts : List Turn) : State := { s with env := { s.env with turns := ts } }

/-- `s` with its first listed turn used and its first listed host word taken off the command port. -/
def wordUsed (s : State) (ts : List Turn) (ws : List Word) : State :=
  { s with env := { s.env with turns := ts, words := ws } }

/-- `popcount(v[5:0])` (R152). -/
def popcount6 (v : Byte) : Nat := (List.range 6).countP (fun b => v.getLsbD b)

/-! ### Encoding -/

/-- R94 and R91: the twelve exact match patterns, each with its operands read as R91 says. -/
def Obligations.MatchPatternsDecodeToTheirOperations : Prop :=
  ∀ (x : BitVec 4) (y : Byte),
    decode (0b0001#4 ++ x ++ y) = .ok (.keywr x.toNat y) ∧
    decode (0b0010#4 ++ 0b0000#4 ++ y) = .ok (.setwr y) ∧
    decode (0b0011#4 ++ x ++ y) = .ok (.potwr x.toNat y) ∧
    decode (0b0100#4 ++ 0b0000#4 ++ 0b00000000#8) = .ok .scan ∧
    decode (0b0101#4 ++ 0b0000#4 ++ 0b00000000#8) = .ok .tick ∧
    decode (0b0110#4 ++ 0b0000#4 ++ y) = .ok (.rdreg y.toNat) ∧
    decode (0b1000#4 ++ 0b0000#4 ++ y) = .ok (.von y.toNat) ∧
    decode (0b1001#4 ++ 0b0000#4 ++ y) = .ok (.voff y.toNat) ∧
    decode (0b1010#4 ++ 0b0000#4 ++ y) = .ok (.pshift y.toInt) ∧
    decode (0b1011#4 ++ 0b0000#4 ++ 0b00000000#8) = .ok .potclr ∧
    decode (0b1100#4 ++ 0b0000#4 ++ y) = .ok (.sertx y) ∧
    decode (0b1101#4 ++ 0b0000#4 ++ 0b00000000#8) = .ok .advance

/-- Decoding the encoding of a well-formed operation gives it back, with every operand at every value the format admits. -/
def Obligations.DecodingAnEncodingGivesTheOperation : Prop :=
  ∀ i : Instr, i.wellFormed = true → decode (encode i) = .ok i

/-- Each word has one meaning: a word that decodes is the encoding of the well-formed operation it decodes to. -/
def Obligations.EncodingADecodingGivesTheWord : Prop :=
  ∀ (w : Word) (i : Instr), decode w = .ok i → i.wellFormed = true ∧ encode i = w

/-- A few words written out in spec/95_test_vectors.md decode to what that file says. -/
def Obligations.SampleWordsDecode : Prop :=
  decode 0x10C5 = .ok (.keywr 0 0xC5) ∧ decode 0x2002 = .ok (.setwr 0x02) ∧
  decode 0x3155 = .ok (.potwr 1 0x55) ∧ decode 0x4000 = .ok .scan ∧ decode 0x5000 = .ok .tick ∧
  decode 0x6015 = .ok (.rdreg 0x15) ∧ decode 0x8026 = .ok (.von 38) ∧ decode 0x9026 = .ok (.voff 38) ∧
  decode 0xA0F4 = .ok (.pshift (-12)) ∧ decode 0xB000 = .ok .potclr ∧
  decode 0xC090 = .ok (.sertx 0x90) ∧ decode 0xD000 = .ok .advance

/-- R98: the checks on a host word, in their order, and then the command's rule; a refused word changes nothing but CMDERR
and ERRCAUSE.  Around the execution the step uses up the listed turn and the listed host word, the model's own fields (log
entries 3 and 4, DESIGN CHOICE); that it goes on after a refused word is read from R301 (log entry 6). -/
def Obligations.HostWordIsCheckedInOrderThenExecuted : Prop :=
  ∀ (s : State) (ts : List Turn) (w : Word) (ws : List Word),
    s.cfg.wellFormed = true → s.env.turns = .host :: ts → s.env.words = w :: ws → s.scanq = [] →
    let s' := wordUsed s ts ws
    let op := w.toNat / 4096
    let idx := w.toNat / 256 % 16
    let d := w.toNat % 256
    ((op = 0x0 ∨ op = 0x7 ∨ op = 0xE ∨ op = 0xF) → step s = .next (firstCauseRecorded 1 s')) ∧
    ((op = 0x5 ∨ (0x8 ≤ op ∧ op ≤ 0xD)) → step s = .next (firstCauseRecorded 4 s')) ∧
    (op = 0x1 → (s.cfg.groups ≤ idx → step s = .next (firstCauseRecorded 3 s')) ∧
      (idx < s.cfg.groups → step s = exec (.keywr idx (BitVec.ofNat 8 d)) s')) ∧
    (op = 0x2 → (idx ≠ 0 → step s = .next (firstCauseRecorded 2 s')) ∧
      (idx = 0 → step s = exec (.setwr (BitVec.ofNat 8 d)) s')) ∧
    (op = 0x3 → (2 ≤ idx → step s = .next (firstCauseRecorded 3 s')) ∧
      (idx < 2 → step s = exec (.potwr idx (BitVec.ofNat 8 d)) s')) ∧
    (op = 0x4 → (w.toNat % 4096 ≠ 0 → step s = .next (firstCauseRecorded 2 s')) ∧
      (w.toNat % 4096 = 0 → step s = exec .scan s')) ∧
    (op = 0x6 → (idx ≠ 0 → step s = .next (firstCauseRecorded 2 s')) ∧
      (idx = 0 → regOf s.cfg d = none → step s = .next (firstCauseRecorded 3 s')) ∧
      (idx = 0 → regOf s.cfg d ≠ none → step s = exec (.rdreg d) s'))

/-! ### Stepping -/

/-- A step runs the decoded instruction: a listed HOST turn with an empty queue executes the host word, a listed SCAN turn
the word at the head of SCANQ, taken off it, and a listed TIMER turn TICK.  Around the execution the step only uses up the
listed turn and word, the model's own fields (log entries 3 and 4).
That turns and words are listed in the state is the model's choice. -/
def Obligations.StepRunsTheDecodedInstruction : Prop :=
  ∀ (s : State) (ts : List Turn), s.cfg.wellFormed = true →
    (∀ (w : Word) (ws : List Word) (i : Instr), s.env.turns = .host :: ts → s.env.words = w :: ws → s.scanq = [] →
      decodeHost w = .ok i → step s = exec i (wordUsed s ts ws)) ∧
    (∀ (w : Word) (rest : List Word) (i : Instr), s.env.turns = .scan :: ts → s.scanq = w :: rest →
      decodeMicro w = some i → step s = exec i { turnUsed s ts with scanq := rest }) ∧
    (s.env.turns = .timer :: ts → step s = exec .tick (turnUsed s ts))

/-- R160: the SCAN agent's step on every word that SCANQ may hold (op 0x8 to 0xD, R92), the turn it passes when SCANQ is
empty, a TICK between two SCAN steps, and no HOST step between them (a passed turn is the model's form of `hold`,
log entry 5). -/
def Obligations.ScanAgentTakesTheHeadAndTickMayComeBetween : Prop :=
  ∀ (s : State) (ts : List Turn), s.cfg.wellFormed = true →
    (∀ (w : Word) (rest : List Word) (i : Instr), s.env.turns = .scan :: ts → s.scanq = w :: rest →
      0x8 ≤ w.toNat / 4096 → w.toNat / 4096 ≤ 0xD → decode w = .ok i →
      step s = exec i { turnUsed s ts with scanq := rest }) ∧
    (s.env.turns = .scan :: ts → s.scanq = [] → step s = .next (turnUsed s ts)) ∧
    (s.env.turns = .timer :: ts → step s = exec .tick (turnUsed s ts)) ∧
    (s.env.turns = .host :: ts → s.scanq ≠ [] → step s = .next (turnUsed s ts))

/-- The model's choice (log entry 3): with no turn listed, the step does what it does with one free turn listed, whatever
that turn is.  So a statement about listed turns is a statement about every run. -/
def Obligations.UnlistedTurnActsAsAListedOne : Prop :=
  ∀ s : State, s.env.turns = [] →
    step s = step { s with env := { s.env with
      turns := [Config.freeTurn s.env.freeTurns], freeTurns := s.env.freeTurns + 1 } }

/-- R135 and R41: the hold is lifted after as many SCAN steps as SCANQ holds: the queue is then empty, the cycle's ADVANCE has
copied the snapshots, and the current snapshots, the command-error registers and the environment's part are as they
were.
The spec marks it as an inference of its own, `[derived: from]` R129 and R170. -/
def Obligations.HoldIsLiftedByTheCyclesAdvance : Prop :=
  ∀ s : State, s.Inv → s.scanq ≠ [] →
    ∃ t, drainScan s.scanq.length s = .next t ∧ t.scanq = [] ∧ t.busy = false ∧
      t.keyprev = s.keycur ∧ t.setprev = s.setcur ∧ t.keycur = s.keycur ∧ t.setcur = s.setcur ∧
      t.cmderr = s.cmderr ∧ t.errcause = s.errcause ∧ t.env = s.env

/-! ### Host commands -/

/-- KEYWR (R120): on a group below G it stores bits [5:0] of the byte with bits [7:6] clear and changes nothing else, a second
write to the group replaces the first; on any other group it records cause 3 and nothing else. -/
def Obligations.KeywrStoresTheSixKeyBits : Prop :=
  ∀ (g : Nat) (v : Byte) (s : State),
    (g < s.cfg.groups → g < s.keycur.length →
      ∃ t, exec (.keywr g v) s = .next t ∧ t.keycur[g]? = some (v &&& 0x3F) ∧
        (∀ j, j ≠ g → t.keycur[j]? = s.keycur[j]?) ∧ t = { s with keycur := t.keycur } ∧
        (s.keycur[g]? = some (v &&& 0x3F) → t = s) ∧
        (∀ v' : Byte, exec (.keywr g v') t = exec (.keywr g v') s)) ∧
    (s.cfg.groups ≤ g → exec (.keywr g v) s = .next (firstCauseRecorded 3 s))

/-- SETWR (R123): its encoding, its effect and frame, the refusal of a nonzero idx with cause 2, bits [7:4] stored and read
back but without effect on the events, no event from a byte none of whose bits rises, and the rule's example.  That a
released button yields no event beside a pressed one is `SettingsEdgesAreTheRisingEdgesInOrder`. -/
def Obligations.SetwrStoresTheSettingsByte : Prop :=
  (∀ v : Byte, decodeHost (0b0010#4 ++ 0b0000#4 ++ v) = .ok (.setwr v)) ∧
  (∀ (x : BitVec 4) (v : Byte), x ≠ 0 → decodeHost (0b0010#4 ++ x ++ v) = .error .reservedField) ∧
  causeCode .reservedField = 2 ∧
  (∀ (v : Byte) (s : State), exec (.setwr v) s = .next { s with setcur := v }) ∧
  (∀ (v : Byte) (s : State), exec (.rdreg 0x10) { s with setcur := v } =
    .next { s with setcur := v, rdata := v.setWidth 16 }) ∧
  (∀ v sp : Byte, settingsEdges v sp = settingsEdges (v &&& 0x0F) sp) ∧
  (∀ v sp : Byte, (∀ b, v.getLsbD b = true → sp.getLsbD b = true) → settingsEdges v sp = []) ∧
  decodeHost 0x2002 = .ok (.setwr 0x02)

/-- POTWR (R126): an enabled channel takes the reading and its changed flag is set, also for an equal reading; a disabled
channel is accepted and ignored; any other channel records cause 3; nothing else changes. -/
def Obligations.PotwrTakesTheReadingOfAnEnabledChannel : Prop :=
  ∀ (c : Nat) (v : Byte) (s : State),
    (c = 0 → s.cfg.vibratoEn = true →
      exec (.potwr c v) s = .next { s with potval0 := v, potchg := s.potchg ||| 0b01#2 }) ∧
    (c = 1 → s.cfg.tremoloEn = true →
      exec (.potwr c v) s = .next { s with potval1 := v, potchg := s.potchg ||| 0b10#2 }) ∧
    ((c = 0 ∧ s.cfg.vibratoEn = false) ∨ (c = 1 ∧ s.cfg.tremoloEn = false) → exec (.potwr c v) s = .next s) ∧
    (2 ≤ c → exec (.potwr c v) s = .next (firstCauseRecorded 3 s))

/-- SCAN (R129): SCANQ becomes the cycle's list, which is never empty and ends with ADVANCE, and nothing else changes; the list
depends only on the inputs the rule names and the configuration. -/
def Obligations.ScanLoadsTheCyclesList : Prop :=
  ∀ s : State,
    exec .scan s = .next { s with scanq := cycleList s } ∧
    (cycleList s).getLast? = some 0xD000 ∧
    ({ s with scanq := cycleList s } : State).busy = true ∧
    (∀ s' : State, s'.cfg = s.cfg → s'.mode = s.mode → s'.keycur = s.keycur → s'.keyprev = s.keyprev →
      s'.setcur = s.setcur → s'.setprev = s.setprev → s'.potval0 = s.potval0 → s'.potval1 = s.potval1 →
      s'.potchg = s.potchg → s'.pitch0 = s.pitch0 → s'.laststatus = s.laststatus → cycleList s' = cycleList s)

/-- RDREG and the register number map (R132, R51): what RDATA becomes for every assigned number, the refusal with cause 3 of
every unassigned one, and nothing else changed. -/
def Obligations.RdregReadsTheNumberedRegister : Prop :=
  ∀ s : State, s.voices.length = s.cfg.maxVoices → s.cfg.maxVoices ≤ 32 → s.cfg.groups ≤ 8 →
    (∀ g b, g < s.cfg.groups → s.keycur[g]? = some b →
      exec (.rdreg g) s = .next { s with rdata := b.setWidth 16 }) ∧
    (∀ g b, g < s.cfg.groups → s.keyprev[g]? = some b →
      exec (.rdreg (0x08 + g)) s = .next { s with rdata := b.setWidth 16 }) ∧
    exec (.rdreg 0x10) s = .next { s with rdata := s.setcur.setWidth 16 } ∧
    exec (.rdreg 0x11) s = .next { s with rdata := s.setprev.setWidth 16 } ∧
    exec (.rdreg 0x12) s = .next { s with rdata := s.potval0.setWidth 16 } ∧
    exec (.rdreg 0x13) s = .next { s with rdata := s.potval1.setWidth 16 } ∧
    exec (.rdreg 0x14) s = .next { s with rdata := s.potchg.setWidth 16 } ∧
    exec (.rdreg 0x15) s = .next { s with rdata := s.pitch0.setWidth 16 } ∧
    (∃ x : BitVec 16, exec (.rdreg 0x16) s = .next { s with rdata := x } ∧
      x.toNat = 16 * s.errcause.toNat + (if s.cmderr = true then 4 else 0) + (if s.scanq = [] then 0 else 2)
        + (if s.mode = .midi then 1 else 0)) ∧
    exec (.rdreg 0x17) s = .next { s with rdata := s.duty } ∧
    (∃ x : BitVec 16, exec (.rdreg 0x18) s = .next { s with rdata := x } ∧
      x.toNat = (s.voices.filter (fun v => v.valid)).length) ∧
    exec (.rdreg 0x19) s = .next { s with rdata := s.laststatus.setWidth 16 } ∧
    exec (.rdreg 0x1A) s = .next { s with rdata := BitVec.ofNat 16 s.time.toNat } ∧
    exec (.rdreg 0x1B) s = .next { s with rdata := BitVec.ofNat 16 (s.time.toNat / 65536) } ∧
    (∀ i v, s.voices[i]? = some v →
      (∃ x : BitVec 16, exec (.rdreg (0x20 + i)) s = .next { s with rdata := x } ∧
        x.toNat = (if v.valid = true then 32768 else 0) + v.note.toNat) ∧
      exec (.rdreg (0x40 + i)) s = .next { s with rdata := v.phase } ∧
      exec (.rdreg (0x60 + i)) s = .next { s with rdata := v.period }) ∧
    (∀ r, (s.cfg.groups ≤ r ∧ r < 0x08) ∨ (0x08 + s.cfg.groups ≤ r ∧ r < 0x10) ∨ (0x1C ≤ r ∧ r < 0x20) ∨
        (0x20 + s.cfg.maxVoices ≤ r ∧ r < 0x40) ∨ (0x40 + s.cfg.maxVoices ≤ r ∧ r < 0x60) ∨
        (0x60 + s.cfg.maxVoices ≤ r ∧ r < 0x80) ∨ 0x80 ≤ r →
      exec (.rdreg r) s = .next (firstCauseRecorded 3 s))

/-- R42: CMDERR is set only by a refused host command, with that error's cause; while it is 1 both registers stay, whatever
step is taken but a reset; a reset clears both, and both reset to 0.
That the step goes on after a refused word is read from R301 (log entry 6). -/
def Obligations.CommandErrorIsStickyUntilReset : Prop :=
  (∀ s t : State, step s = .next t → ¬ ResetIsNext s → s.cmderr = true →
    t.cmderr = true ∧ t.errcause = s.errcause) ∧
  (∀ s t : State, step s = .next t → s.cmderr = false → t.cmderr = true →
    (takeTurn s).1 = .host ∧ s.busy = false ∧ 1 ≤ t.errcause.toNat ∧ t.errcause.toNat ≤ 4 ∧
      t = { s with cmderr := true, errcause := t.errcause, env := t.env }) ∧
  (∀ s t : State, step s = .next t → ResetIsNext s → t.cmderr = false ∧ t.errcause = 0) ∧
  (∀ (c : Config) (m : RunMode), (State.resetWith c m).cmderr = false ∧ (State.resetWith c m).errcause = 0)

/-! ### Transition detector, pitch map and scan cycle -/

/-- R150 and R151: the events are exactly the changed bits, each classified by its own two bits alone, in strictly ascending
key index. -/
def Obligations.KeyEventsAreTheChangedBitsInOrder : Prop :=
  ∀ (c : Config) (C P : List Byte),
    (∀ k, (KeyKind.press, k) ∈ keyEvents c C P ↔ k < c.keysNumber ∧
      (C.getD (k / 6) 0).getLsbD (k % 6) = true ∧ (P.getD (k / 6) 0).getLsbD (k % 6) = false) ∧
    (∀ k, (KeyKind.release, k) ∈ keyEvents c C P ↔ k < c.keysNumber ∧
      (C.getD (k / 6) 0).getLsbD (k % 6) = false ∧ (P.getD (k / 6) 0).getLsbD (k % 6) = true) ∧
    ((keyEvents c C P).map Prod.snd).Pairwise (· < ·)

/-- R152: there are exactly as many events as the groups have changed bits; being a function of the pair, the detector gives
the same list when it is run again in any state with the same configuration and pair. -/
def Obligations.KeyEventsAreAsManyAsChangedBits : Prop :=
  (∀ (c : Config) (C P : List Byte), c.wellFormed = true →
    (keyEvents c C P).length =
      ((List.range c.groups).map (fun g => popcount6 (C.getD g 0 ^^^ P.getD g 0))).sum) ∧
  (∀ s t : State, t.cfg = s.cfg → t.keycur = s.keycur → t.keyprev = s.keyprev →
    keyEvents t.cfg t.keycur t.keyprev = keyEvents s.cfg s.keycur s.keyprev)

/-- R153: the deltas of the rising edges of bits 0 to 3, in the fixed order; no other bit and no other edge yields one. -/
def Obligations.SettingsEdgesAreTheRisingEdgesInOrder : Prop :=
  ∀ S SP : Byte,
    settingsEdges S SP =
      (if S.getLsbD 0 = true ∧ SP.getLsbD 0 = false then [-12] else []) ++
      (if S.getLsbD 1 = true ∧ SP.getLsbD 1 = false then [12] else []) ++
      (if S.getLsbD 2 = true ∧ SP.getLsbD 2 = false then [-1] else []) ++
      (if S.getLsbD 3 = true ∧ SP.getLsbD 3 = false then [1] else [])

/-- R155: in a good state every key event's note index lies in `[0, NOTE_NUMBER - 1]`.
The spec marks it as an inference of its own, `[derived: from]` R39 and R8. -/
def Obligations.NoteIndexStaysInRange : Prop :=
  ∀ (s : State) (e : KeyKind × Nat), s.Inv → e ∈ keyEvents s.cfg s.keycur s.keyprev →
    s.pitch0.toNat + e.2 ≤ s.cfg.noteNumber - 1

/-- R170, R171 and R236: the words of the cycle's list, in order, each written out: the backend's, then one PSHIFT a settings
edge, then POTCLR, then ADVANCE. -/
def Obligations.CycleListHasItsFourPartsInOrder : Prop :=
  ∀ s : State,
    (s.mode = .synth → cycleList s =
      (keyEvents s.cfg s.keycur s.keyprev).map (fun e =>
        (if e.1 = .press then 0x8#4 else 0x9#4) ++ 0#4 ++ BitVec.ofNat 8 (s.pitch0.toNat + e.2))
      ++ (settingsEdges s.setcur s.setprev).map (fun d => 0xA#4 ++ 0#4 ++ BitVec.ofInt 8 d)
      ++ [0xB000, 0xD000]) ∧
    (s.mode = .midi → cycleList s =
      (noteMsgBytes s (keyEvents s.cfg s.keycur s.keyprev) ++ potMsgBytes s).map (fun b => 0xC#4 ++ 0#4 ++ b)
      ++ (settingsEdges s.setcur s.setprev).map (fun d => 0xA#4 ++ 0#4 ++ BitVec.ofInt 8 d)
      ++ [0xB000, 0xD000])

/-- PSHIFT (R162): the four words, and PITCH0 becomes the clamped integer sum; nothing else changes, no error is recorded, and
the voice table is not touched. -/
def Obligations.PshiftClampsPitch0 : Prop :=
  (decodeMicro 0xA0F4 = some (.pshift (-12)) ∧ decodeMicro 0xA00C = some (.pshift 12) ∧
    decodeMicro 0xA0FF = some (.pshift (-1)) ∧ decodeMicro 0xA001 = some (.pshift 1)) ∧
  (∀ (d : Int) (s : State), s.cfg.maxPitch0 < 256 →
    ∃ p : BitVec 8, exec (.pshift d) s = .next { s with pitch0 := p } ∧
      (p.toNat : Int) = min (max ((s.pitch0.toNat : Int) + d) 0) (s.cfg.maxPitch0 : Int))

/-- R174: no operation but PSHIFT changes PITCH0, a cycle holds PSHIFTs for the settings edges and no others, and every
sequence of PSHIFTs keeps PITCH0 within `[0, MAX_PITCH_0]` after every step.
The spec marks it as an inference of its own, `[derived: from]` R162. -/
def Obligations.Pitch0MovesOnlyByPshiftWithinItsRange : Prop :=
  (∀ (i : Instr) (s t : State), exec i s = .next t → t.pitch0 ≠ s.pitch0 → ∃ d, i = .pshift d) ∧
  (∀ (s : State) (d : Int), Instr.pshift d ∈ cycleOps s ↔ d ∈ settingsEdges s.setcur s.setprev) ∧
  (∀ (c : Config) (ds : List Int) (p : BitVec 8), c.wellFormed = true → p.toNat ≤ c.maxPitch0 →
    (ds.foldl (shiftPitch c) p).toNat ≤ c.maxPitch0)

/-- POTCLR (R164): both flags are cleared and nothing else changes. -/
def Obligations.PotclrClearsBothFlags : Prop :=
  ∀ s : State, exec .potclr s = .next { s with potchg := 0b00#2 }

/-- ADVANCE (R166): the previous snapshots become the current ones and nothing else changes; as the last word of the queue it
leaves SCANQ empty and BUSY 0. -/
def Obligations.AdvanceCopiesTheSnapshots : Prop :=
  (∀ s : State, exec .advance s = .next { s with keyprev := s.keycur, setprev := s.setcur }) ∧
  (∀ (s : State) (ts : List Turn), s.cfg.wellFormed = true → s.env.turns = .scan :: ts → s.scanq = [0xD000] →
    ∃ t, step s = .next t ∧
      t = { turnUsed s ts with keyprev := s.keycur, setprev := s.setcur, scanq := [] } ∧ t.busy = false)

/-- R80 and R135: while a scan cycle runs, no step but a reset changes KEYCUR, SETCUR, POTVAL or RDATA, and none records an
error.  POTCHG is not among them: the cycle's POTCLR clears it (R164).  A held turn passes (log entry 5). -/
def Obligations.SnapshotsAreStableDuringACycle : Prop :=
  ∀ s t : State, s.Inv → s.scanq ≠ [] → ¬ ResetIsNext s → step s = .next t →
    t.keycur = s.keycur ∧ t.setcur = s.setcur ∧ t.potval0 = s.potval0 ∧ t.potval1 = s.potval1 ∧
    t.rdata = s.rdata ∧ t.cmderr = s.cmderr ∧ t.errcause = s.errcause ∧ t.env.words = s.env.words

/-! ### Synthesizer -/

/-- VON (R192): nothing changes when the note sounds or no slot is free; otherwise the lowest free slot holds the note, its
period and the phase `T mod P`, and nothing else changes.  Where the ROM states no period (`n` outside its range, which
SCAN never sends) the instruction completes in the same slot with the period and phase left free.
That the value is left free there is the model's choice (log entry 7). -/
def Obligations.VonTakesTheLowestFreeSlot : Prop :=
  ∀ (n : Nat) (s : State), n < 256 →
    ((∃ v ∈ s.voices, v.valid = true ∧ v.note.toNat = n) → exec (.von n) s = .next s) ∧
    ((∀ v ∈ s.voices, v.valid = true) → exec (.von n) s = .next s) ∧
    (∀ (i : Nat) (u : Voice), (∀ v ∈ s.voices, v.valid = true → v.note.toNat ≠ n) →
      s.voices[i]? = some u → u.valid = false → (∀ j v, j < i → s.voices[j]? = some v → v.valid = true) →
      ∃ w : Voice, exec (.von n) s = .next { s with voices := s.voices.set i w } ∧
        w.valid = true ∧ w.note.toNat = n ∧
        (∀ P : BitVec 16, s.cfg.period[n]? = some P → 2 ≤ P.toNat →
          w.period = P ∧ w.phase.toNat = s.time.toNat % P.toNat))

/-- VOFF (R195): the slot of the note becomes Idle, and nothing else changes; with no such slot nothing changes at all. -/
def Obligations.VoffMakesTheVoiceIdle : Prop :=
  ∀ (n : Nat) (s : State),
    ((∀ v ∈ s.voices, v.valid = true → v.note.toNat ≠ n) → exec (.voff n) s = .next s) ∧
    (∀ (i : Nat) (u : Voice), s.voices[i]? = some u → u.valid = true → u.note.toNat = n →
      (∀ j v, j ≠ i → s.voices[j]? = some v → v.valid = true → v.note.toNat ≠ n) →
      exec (.voff n) s = .next { s with voices := s.voices.set i ⟨false, 0, 0, 0⟩ })

/-- R197, R198 and R199: the three contributions on their domain, as exact quotients, and the largest value each shape
reaches. -/
def Obligations.ShapeContributionsAreExactQuotients : Prop :=
  ∀ q ph P : Nat, ph < P → 2 ≤ P →
    (contrib .square q ph P = if 2 * ph < P then q else 0) ∧
    (2 * ph < P → contrib .triangle q ph P = 2 * q * ph / P) ∧
    (P ≤ 2 * ph → contrib .triangle q ph P = 2 * q * (P - ph) / P) ∧
    (contrib .sawtooth q ph P = q * ph / P) ∧
    (∀ w : WaveShape, contrib w q ph P ≤ q) ∧
    (1 ≤ q → contrib .sawtooth q ph P < q) ∧
    (2 * ph = P → contrib .triangle q ph P = q)

/-- TICK in Synth mode (R200): DUTY becomes the clamped sum of the valid slots' contributions at the phases before the advance,
every valid slot's phase advances modulo its period and nothing else of a slot changes, T counts modulo 2^32, and no other
component changes. -/
def Obligations.TickWritesTheSampleAndAdvances : Prop :=
  ∀ s : State, s.mode = .synth → s.cfg.pwmTop < 65536 →
    (∀ v ∈ s.voices, v.valid = true → v.phase.toNat < v.period.toNat ∧ 2 ≤ v.period.toNat) →
    ∃ t, exec .tick s = .next t ∧
      t = { s with duty := t.duty, voices := t.voices, time := t.time } ∧
      t.duty.toNat = min (s.cfg.baseline + ((s.voices.filter (fun v => v.valid)).map
        (fun v => contrib s.cfg.waveShape s.cfg.ampQ v.phase.toNat v.period.toNat)).sum) s.cfg.pwmTop ∧
      t.voices.length = s.voices.length ∧
      (∀ (i : Nat) (v : Voice), s.voices[i]? = some v → v.valid = false → t.voices[i]? = some v) ∧
      (∀ (i : Nat) (v : Voice), s.voices[i]? = some v → v.valid = true →
        ∃ x : BitVec 16, t.voices[i]? = some { v with phase := x } ∧
          x.toNat = (v.phase.toNat + 1) % v.period.toNat) ∧
      t.time.toNat = (s.time.toNat + 1) % 2 ^ 32

/-- R201: TICK in MIDI mode has no effect. -/
def Obligations.TickHasNoEffectInMidiMode : Prop :=
  ∀ s : State, s.mode = .midi → exec .tick s = .next s

/-- R309: a TICK leaves everything but V[*], T and DUTY as it is, and what it does to those depends on nothing but them, MODE
and the configuration.
The spec marks it as an inference of its own, `[derived: from]` R200. -/
def Obligations.TickTouchesOnlyTheSynthesizer : Prop :=
  ∀ s s' : State, s'.cfg = s.cfg → s'.mode = s.mode → s'.voices = s.voices → s'.time = s.time → s'.duty = s.duty →
    ∃ t t', exec .tick s = .next t ∧ exec .tick s' = .next t' ∧
      t = { s with duty := t.duty, voices := t.voices, time := t.time } ∧
      t'.duty = t.duty ∧ t'.voices = t.voices ∧ t'.time = t.time

/-- R203: in a good state every sounding voice contributes at most AMP_Q, the sum is at most `MAX_VOICES * AMP_Q`, which is at
most PWM_TOP, and a Synth-mode TICK leaves DUTY between BASELINE and PWM_TOP.
The spec marks it as an inference of its own, `[derived: from]` R197 to R199 and R15. -/
def Obligations.SampleStaysWithinTheDutyRange : Prop :=
  ∀ s : State, s.Inv →
    (∀ v ∈ s.voices, voiceContrib s.cfg v ≤ s.cfg.ampQ) ∧
    sampleSum s.cfg s.voices ≤ s.cfg.maxVoices * s.cfg.ampQ ∧
    s.cfg.maxVoices * s.cfg.ampQ ≤ s.cfg.pwmTop ∧
    (s.mode = .synth → ∃ t, exec .tick s = .next t ∧ s.cfg.baseline ≤ t.duty.toNat ∧ t.duty.toNat ≤ s.cfg.pwmTop)

/-- R204: from a good state in Synth mode in which note n does not sound and a slot is free, VON n, then any number of TICKs,
then VOFF n leaves the state those TICKs alone leave, DUTY apart, and the next TICK writes the same DUTY: no residual
contribution.
The spec marks it as an inference of its own, `[derived: from]` R192, R195 and R200. -/
def Obligations.PressThenReleaseLeavesNoResidue : Prop :=
  ∀ (s : State) (n k : Nat), s.Inv → s.mode = .synth → n < s.cfg.noteNumber →
    (∀ v ∈ s.voices, v.valid = true → v.note.toNat ≠ n) → (∃ v ∈ s.voices, v.valid = false) →
    ∃ a b, exec (.von n) s = .next a ∧ exec (.voff n) (synthTick^[k] a) = .next b ∧
      b = { synthTick^[k] s with duty := b.duty } ∧
      exec .tick b = exec .tick (synthTick^[k] s)

/-- R202: a step keeps `phase = T mod period` for every Sounding voice, as long as T does not wrap in the step or every period
divides 2^32.
The spec marks it as an inference of its own, `[derived: from]` R192 and R200. -/
def Obligations.PhasesStayLockedToTheSampleCounter : Prop :=
  ∀ s t : State, s.Inv → PhasesLocked s → step s = .next t →
    (s.time.toNat + 1 < 2 ^ 32 ∨ ∀ v ∈ s.voices, v.valid = true → v.period.toNat ∣ 2 ^ 32) → PhasesLocked t

/-- Section 3 of spec/95_test_vectors.md, program P5, for every state: a TICK before or after a VON gives the same voice table
and the same T, so long as T does not wrap; only DUTY may differ.
The spec marks it as an inference of its own, `[derived: from]` R192, R198 and R200. -/
def Obligations.TickAndVonCommuteExceptForDuty : Prop :=
  ∀ (s a b a' b' : State) (n : Nat), s.Inv → s.mode = .synth → n < s.cfg.noteNumber → s.time.toNat + 1 < 2 ^ 32 →
    exec (.von n) s = .next a → exec .tick a = .next a' →
    exec .tick s = .next b → exec (.von n) b = .next b' →
    a' = { b' with duty := a'.duty }

/-- R304: with every slot Sounding a VON changes and records nothing; the same Press in MIDI mode always has its Note On pair in
the cycle's bytes. -/
def Obligations.CapacityExhaustionIsSilent : Prop :=
  (∀ (n : Nat) (s : State), (∀ v ∈ s.voices, v.valid = true) → exec (.von n) s = .next s) ∧
  (∀ (s : State) (k : Nat), s.mode = .midi → (KeyKind.press, k) ∈ keyEvents s.cfg s.keycur s.keyprev →
    ∃ xs ys, (cycleOps s) = xs ++ [.sertx (noteByte s k), .sertx 0x40] ++ ys)

/-- R306: a VOFF of a note that does not sound changes and records nothing; in MIDI mode every Release has its (note, 0x00) pair
in the cycle's bytes, whatever the voice table holds.
The spec marks it as an inference of its own, `[derived: from]` R233. -/
def Obligations.UnmatchedReleaseIsSilentInSynthAndSentInMidi : Prop :=
  (∀ (n : Nat) (s : State), (∀ v ∈ s.voices, ¬ (v.valid = true ∧ v.note.toNat = n)) → exec (.voff n) s = .next s) ∧
  (∀ (s : State) (k : Nat), s.mode = .midi → (KeyKind.release, k) ∈ keyEvents s.cfg s.keycur s.keyprev →
    ∃ xs ys, (cycleOps s) = xs ++ [.sertx (noteByte s k), .sertx 0x00] ++ ys)

/-- R191: a cycle's Presses are served in ascending key index until the table is full: `VON`s of distinct notes
that do not sound yet leave as many new voices Sounding as there are free slots, or one for each if there are more.
The spec marks it as an inference of its own, `[derived: from]` R192 and R171. -/
def Obligations.PressesFillTheFreeSlotsAndTheRestAreDropped : Prop :=
  ∀ (s : State) (ns : List Nat), ns.Nodup → (∀ n ∈ ns, n < 256) →
    (∀ n ∈ ns, n ∉ soundingNotes s.voices) →
    let free := s.voices.countP (fun v => !v.valid)
    let after := ns.foldl (fun vs n => voicesOn s.cfg s.time n vs) s.voices
    (∀ n, n ∈ soundingNotes after ↔ n ∈ soundingNotes s.voices ∨ n ∈ ns.take free) ∧
    after.countP (fun v => v.valid) = s.voices.countP (fun v => v.valid) + min ns.length free

/-! ### MIDI event serializer -/

/-- R231: the two queues hold the pressed and the released keys in ascending key index, each no longer than KEYS_NUMBER, no key
twice in one and none in both.
The spec marks it as an inference of its own, `[derived: from]` R150. -/
def Obligations.QueuesHoldEachKeyAtMostOnce : Prop :=
  ∀ s : State,
    let es := keyEvents s.cfg s.keycur s.keyprev
    (∀ k, k ∈ onQueue es ↔ (KeyKind.press, k) ∈ es) ∧ (∀ k, k ∈ offQueue es ↔ (KeyKind.release, k) ∈ es) ∧
    (onQueue es).Pairwise (· < ·) ∧ (offQueue es).Pairwise (· < ·) ∧
    (onQueue es).length + (offQueue es).length ≤ s.cfg.keysNumber ∧
    (∀ k, k ∈ onQueue es → k ∉ offQueue es)

/-- R232: in a good state the note byte of a key is the exact sum, at most 254 and never wrapped or masked.
The spec marks it as an inference of its own, `[derived: from]` R7, R10 and R155. -/
def Obligations.NoteByteIsTheExactSum : Prop :=
  ∀ (s : State) (k : Nat), s.Inv → k < s.cfg.keysNumber →
    (noteByte s k).toNat = s.pitch0.toNat + k + s.cfg.midiC0 ∧ (noteByte s k).toNat ≤ 254

/-- R233 and R234: the note-message bytes of a cycle: none without an event, otherwise the status part, then a (note, 0x40)
pair for every Press, then a (note, 0x00) pair for every Release; the status byte is left out only under
RUNNING_STATUS_ACROSS_CYCLES when it repeats LASTSTATUS. -/
def Obligations.NoteMessagesArePressesThenReleases : Prop :=
  ∀ (s : State) (es : List (KeyKind × Nat)), s.cfg.midiChannel < 16 →
    (es = [] → noteMsgBytes s es = []) ∧
    (es ≠ [] → ∃ st : Byte, st.toNat = 0x90 + s.cfg.midiChannel ∧
      noteMsgBytes s es =
        (if s.cfg.runningStatusAcrossCycles = true ∧ s.laststatus = st then [] else [st])
        ++ (es.filter (fun e => decide (e.1 = .press))).flatMap (fun e => [noteByte s e.2, 0x40])
        ++ (es.filter (fun e => decide (e.1 = .release))).flatMap (fun e => [noteByte s e.2, 0x00]))

/-- R235: the pot messages: Pitch Bend for a changed vibrato reading, then Control Change 7 for a changed tremolo reading, each
with its own status byte and the reading unmasked. -/
def Obligations.PotMessagesArePitchBendThenControlChange : Prop :=
  ∀ s : State, s.cfg.midiChannel < 16 →
    ∃ pb cc : Byte, pb.toNat = 0xE0 + s.cfg.midiChannel ∧ cc.toNat = 0xB0 + s.cfg.midiChannel ∧
      potMsgBytes s =
        (if s.potchg.getLsbD 0 = true then [pb, 0x00, s.potval0] else [])
        ++ (if s.potchg.getLsbD 1 = true then [cc, 0x07, s.potval1] else [])

/-- SERTX (R240): the byte is appended to SEROUT, LASTSTATUS follows a byte with bit 7 = 1, and nothing else changes. -/
def Obligations.SertxSendsOneByte : Prop :=
  ∀ (b : Byte) (s : State),
    (128 ≤ b.toNat → exec (.sertx b) s = .next { s with serout := s.serout ++ [b], laststatus := b }) ∧
    (b.toNat < 128 → exec (.sertx b) s = .next { s with serout := s.serout ++ [b] })

/-- R241: the MIDI framing property: from all-zero snapshots with `MIDI_C0 = 60`, channel 0, PITCH0 = 36 and no changed pot,
key 0 down emits exactly 90 60 40 in one cycle; from there key 0 up emits 90 60 00 in the next under the default and 60 00
under RUNNING_STATUS_ACROSS_CYCLES.
The spec marks it as an inference of its own, `[derived: from]` R233, R234 and R240. -/
def Obligations.PressAndReleaseAreFramedAsMidi : Prop :=
  ∀ (s : State) (zs : List Byte), s.Inv → s.mode = .midi → s.scanq = [] → s.cfg.midiC0 = 60 → s.cfg.midiChannel = 0 →
    s.pitch0 = 36 → s.keycur = 0x00 :: zs → s.keyprev = 0x00 :: zs → (∀ b ∈ zs, b = 0) → s.setcur = 0 → s.setprev = 0 →
    s.potchg = 0 → s.laststatus = 0 →
    ∃ t u : State, scanSync { s with keycur := 0x01 :: zs } = .next t ∧ t.serout = s.serout ++ [0x90, 0x60, 0x40] ∧
      scanSync { t with keycur := 0x00 :: zs } = .next u ∧
      (s.cfg.runningStatusAcrossCycles = false → u.serout = t.serout ++ [0x90, 0x60, 0x00]) ∧
      (s.cfg.runningStatusAcrossCycles = true → u.serout = t.serout ++ [0x60, 0x00])

/-- A whole scan cycle in MIDI mode without a TICK inside (SCANSYNC, R102), from every good idle state: it sends
exactly the note messages and then the pot messages, moves PITCH0 by the settings edges in order, clears the changed flags,
advances the previous snapshots, and changes nothing else (R170, R233, R235, R162, R164, R166, R240).
`scanSync` is the model's form of SCANSYNC (log entry 20). -/
def Obligations.MidiScanCycleSendsItsMessages : Prop :=
  ∀ s : State, s.Inv → s.mode = .midi → s.scanq = [] →
    let es := keyEvents s.cfg s.keycur s.keyprev
    let bytes := noteMsgBytes s es ++ potMsgBytes s
    scanSync s = .next { s with
      serout := s.serout ++ bytes
      laststatus := bytes.foldl (fun l b => if 128 ≤ b.toNat then b else l) s.laststatus
      pitch0 := (settingsEdges s.setcur s.setprev).foldl (shiftPitch s.cfg) s.pitch0
      potchg := 0
      keyprev := s.keycur
      setprev := s.setcur }

/-- A whole scan cycle in Synth mode without a TICK inside (SCANSYNC, R102), from every good idle state: the voices
of the events are created and destroyed in ascending key index on the pitch from before the cycle, PITCH0 moves by the
settings edges in order, the changed flags are cleared, the previous snapshots advance, and nothing else changes
(R170, R171, R156).  `scanSync` is the model's form of SCANSYNC (log entry 20). -/
def Obligations.SynthScanCyclePlaysItsEvents : Prop :=
  ∀ s : State, s.Inv → s.mode = .synth → s.scanq = [] →
    scanSync s = .next { s with
      voices := (keyEvents s.cfg s.keycur s.keyprev).foldl (fun vs e =>
        if e.1 = .press then voicesOn s.cfg s.time (s.pitch0.toNat + e.2) vs
        else voicesOff (s.pitch0.toNat + e.2) vs) s.voices
      pitch0 := (settingsEdges s.setcur s.setprev).foldl (shiftPitch s.cfg) s.pitch0
      potchg := 0
      keyprev := s.keycur
      setprev := s.setcur }

/-! ### Reset -/

/-- R350 and R52: a reset turn sets every component to its reset value with MODE from the input level, empties SCANQ whatever it
held, and leaves the bytes already on the link (R50).  The configuration stays, which is a field of State by log entry 1.  That a
reset comes as a listed turn is log entry 3, and that the rest of the environment's part stays is log entry 13: the model's
own. -/
def Obligations.ResetSetsEveryComponent : Prop :=
  ∀ (s : State) (m : RunMode) (ts : List Turn), s.cfg.wellFormed = true → s.env.turns = .reset m :: ts →
    ∃ t, step s = .next t ∧ t.cfg = s.cfg ∧ t.mode = m ∧
      t.keycur.length = s.cfg.groups ∧ (∀ b ∈ t.keycur, b = 0) ∧
      t.keyprev.length = s.cfg.groups ∧ (∀ b ∈ t.keyprev, b = 0) ∧
      t.setcur = 0 ∧ t.setprev = 0 ∧ t.potval0 = 0 ∧ t.potval1 = 0 ∧ t.potchg = 0 ∧
      t.pitch0.toNat = s.cfg.pitch0Reset ∧ t.cmderr = false ∧ t.errcause = 0 ∧ t.duty = 0 ∧
      t.voices.length = s.cfg.maxVoices ∧ (∀ v ∈ t.voices, v = ⟨false, 0, 0, 0⟩) ∧
      t.time = 0 ∧ t.laststatus = 0 ∧ t.rdata = 0 ∧ t.scanq = [] ∧ t.busy = false ∧
      t.serout = s.serout ∧ t.env = { s.env with turns := ts }

/-- R351: an ill-formed configuration has no reset and no step. -/
def Obligations.IllFormedConfigurationHasNoStep : Prop :=
  ∀ c : Config, c.wellFormed = false →
    (∀ m, powerOn c m = none) ∧ (∀ s : State, s.cfg = c → step s = .refused .illFormedConfig)

/-- R352: after reset BUSY is 0 and no voice sounds, and the first TICK in Synth mode writes `DUTY = BASELINE`.
The spec marks it as an inference of its own, `[derived: from]` R350 and R200. -/
def Obligations.FirstTickAfterResetIsSilence : Prop :=
  ∀ (c : Config) (s : State), c.wellFormed = true → powerOn c .synth = some s →
    s.busy = false ∧ s.voiceCount = 0 ∧ ∃ t, exec .tick s = .next t ∧ t.duty.toNat = c.baseline

/-- R354: with previous snapshots all 0, the events are a Press of every key that is down and nothing else.
The spec marks it as an inference of its own, `[derived: from]` R350 and R150. -/
def Obligations.FirstScanReportsEveryKeyDown : Prop :=
  ∀ s : State, (∀ b ∈ s.keyprev, b = 0) →
    keyEvents s.cfg s.keycur s.keyprev =
      ((List.range s.cfg.keysNumber).filter (fun k => keyDown s.keycur k)).map (fun k => (KeyKind.press, k))

/-- R355: a SCAN before any KEYWR, SETWR or POTWR produces the list `[POTCLR, ADVANCE]`.
The spec marks it as an inference of its own, `[derived: from]` R170. -/
def Obligations.ScanRightAfterResetIsEmptyCycle : Prop :=
  ∀ (c : Config) (m : RunMode) (s : State), powerOn c m = some s →
    exec .scan s = .next { s with scanq := [0xB000, 0xD000] }

/-- R362: after a pitch_0 shift the Release of a held key finds no voice unless its new note index sounds: every voice of
another note stays as it is, and a Press onto a note that sounds is a no-op.
The spec marks it as an inference of its own, `[derived: from]` R155, R192 and R195. -/
def Obligations.HeldVoiceOutlivesAPitchShift : Prop :=
  ∀ (s t : State) (d : Int) (k : Nat) (v : Voice), exec (.pshift d) s = .next t →
    v ∈ s.voices → v.valid = true → v.note.toNat = s.pitch0.toNat + k → t.pitch0 ≠ s.pitch0 →
    v ∈ t.voices ∧
    (∃ u, exec (.voff (t.pitch0.toNat + k)) t = .next u ∧ v ∈ u.voices) ∧
    exec (.von v.note.toNat) t = .next t

/-! ### The whole machine -/

/-- HEADLINE. Every step keeps a good state good. -/
def Obligations.EveryStepKeepsTheInvariant : Prop :=
  ∀ s t : State, s.Inv → step s = .next t → t.Inv

/-- The state after reset is good, for every well-formed configuration and either level of the MODE input.
That `State.reset` is CFG-T with MODE 0 is the model's choice (log entries 1 and 2). -/
def Obligations.ResetIsAGoodState : Prop :=
  State.reset.Inv ∧ ∀ (c : Config) (m : RunMode) (s : State), powerOn c m = some s → s.Inv

/-- Every step of a good state answers a next state: SCANQ never carries an illegal word (R92), which the spec marks as an
inference of its own, `[derived: from]` R93 and R96.  It rests on two of the model's choices: a turn whose agent has no step
passes (log entry 5), and a host word that R98 refuses is recorded in CMDERR and ERRCAUSE and the machine goes on, which is
how R301's fault is read (log entry 6). -/
def Obligations.GoodStatesNeverStop : Prop :=
  ∀ s : State, s.Inv → ∃ t, step s = .next t

/-- R45: the four invariants of the voice table hold in every state that any environment reaches from any well-formed
reset.
The spec marks it as an inference of its own, `[derived: from]` R192, R195 and R200. -/
def Obligations.ReachableVoiceTablesAreSound : Prop :=
  ∀ (c : Config) (m : RunMode) (s t : State) (e : Env) (k : Nat), powerOn c m = some s →
    Host.Core.run core k { s with env := e } = .next t →
    (∀ (i j : Nat) (u v : Voice), t.voices[i]? = some u → t.voices[j]? = some v → u.valid = true → v.valid = true →
      u.note = v.note → i = j) ∧
    (∀ v ∈ t.voices, v.valid = true → t.cfg.period[v.note.toNat]? = some v.period ∧ v.phase.toNat < v.period.toNat) ∧
    (∀ v ∈ t.voices, v.valid = false → v.note = 0 ∧ v.period = 0 ∧ v.phase = 0) ∧
    t.voices.countP (fun v => v.valid) ≤ t.cfg.maxVoices

/-- R81: the exclusive writers: only TICK writes DUTY, only SERTX appends to SEROUT, only KEYWR and SETWR write KEYCUR and
SETCUR, only ADVANCE writes KEYPREV and SETPREV; and TICK writes nothing but V[*], T and DUTY. -/
def Obligations.EachRegisterHasItsExclusiveWriter : Prop :=
  ∀ (i : Instr) (s t : State), exec i s = .next t →
    (t.duty ≠ s.duty → i = .tick) ∧
    (t.serout ≠ s.serout → ∃ b, i = .sertx b) ∧
    (t.keycur ≠ s.keycur → ∃ g v, i = .keywr g v) ∧
    (t.setcur ≠ s.setcur → ∃ v, i = .setwr v) ∧
    (t.keyprev ≠ s.keyprev ∨ t.setprev ≠ s.setprev → i = .advance) ∧
    (i = .tick → t = { s with duty := t.duty, voices := t.voices, time := t.time })

/-- R136: no host command writes KEYPREV, SETPREV, PITCH0, DUTY, V[*], T, LASTSTATUS, SEROUT or MODE. -/
def Obligations.HostCommandsLeaveTheBackendsAlone : Prop :=
  ∀ (i : Instr) (s t : State), i.path = .host → exec i s = .next t →
    t.keyprev = s.keyprev ∧ t.setprev = s.setprev ∧ t.pitch0 = s.pitch0 ∧ t.duty = s.duty ∧ t.voices = s.voices ∧
    t.time = s.time ∧ t.laststatus = s.laststatus ∧ t.serout = s.serout ∧ t.mode = s.mode

/-- R32 and R50 over whole steps: no step but a reset changes MODE, no step at all changes the configuration, and every step,
a reset too, only appends to SEROUT.  That the configuration is a field of State, which nothing changes, is log entry 1
(section 3 of spec/00_scope.md: fixed for the block's lifetime). -/
def Obligations.ModeIsFixedAndSeroutOnlyGrows : Prop :=
  ∀ s t : State, step s = .next t →
    (¬ ResetIsNext s → t.mode = s.mode) ∧ t.cfg = s.cfg ∧ ∃ bs : List Byte, t.serout = s.serout ++ bs

/-- R360: from a good state SCAN loads at most `2*KEYS_NUMBER + 13` words in MIDI mode and at most `KEYS_NUMBER + 6` in Synth
mode.
The spec marks it as an inference of its own, `[derived: from]` R170, R233 and R235. -/
def Obligations.ScanQueueLengthIsBounded : Prop :=
  ∀ s : State,
    (s.mode = .midi → (cycleList s).length ≤ 2 * s.cfg.keysNumber + 13) ∧
    (s.mode = .synth → (cycleList s).length ≤ s.cfg.keysNumber + 6)
end

