-- ==== Sys2Proof/Laws/Config.lean ====
section
/-! SUPPORT. Laws/Config.lean: the constraints of a well-formed configuration by name, so that no proof unfolds the check. -/

namespace Sys2Proof

/-- What `Config.wellFormed` says (R5 to R18). -/
structure WellFormedFacts (c : Config) : Prop where
  keysLo : 12 ≤ c.keysNumber
  keysHi : c.keysNumber ≤ 48
  keysSix : c.keysNumber % 6 = 0
  notesLo : c.keysNumber ≤ c.noteNumber
  notesHi : c.noteNumber ≤ 128
  pitch : c.pitch0Reset ≤ c.maxPitch0
  midiC0 : c.midiC0 ≤ 127
  channel : c.midiChannel ≤ 15
  topLo : 1 ≤ c.timerReload
  topHi : c.timerReload ≤ 65535
  ampLo : 1 ≤ c.ampQ
  ampHi : c.ampQ ≤ c.pwmTop
  voicesLo : 1 ≤ c.maxVoices
  voicesHi : c.maxVoices ≤ 32
  base : c.baseline ≤ c.pwmTop
  romSize : c.period.length = c.noteNumber
  romLo : ∀ p ∈ c.period, 2 ≤ p.toNat

theorem wellFormed_facts {c : Config} (h : c.wellFormed = true) : WellFormedFacts c := by
  simp only [Config.wellFormed, Config.constraints, List.all_cons, List.all_nil, id_eq, Bool.and_true,
    Bool.and_eq_true, decide_eq_true_eq, List.all_eq_true] at h
  obtain ⟨h1, h2, h3, h4, h5, h6, h7, h8, h9, h10, h11, h12, h13, h14, h15, h16, h17⟩ := h
  exact ⟨h1, h2, h3, h4, h5, h6, h7, h8, h9, h10, h11, h12, h13, h14, h15, h16, h17⟩

/-- `KEYS_NUMBER = 6 * G` (R6). -/
theorem WellFormedFacts.keys_eq {c : Config} (h : WellFormedFacts c) : c.keysNumber = 6 * c.groups := by
  have := h.keysSix
  unfold Config.groups
  omega

theorem WellFormedFacts.groups_le {c : Config} (h : WellFormedFacts c) : 2 ≤ c.groups ∧ c.groups ≤ 8 := by
  have h1 := h.keysLo
  have h2 := h.keysHi
  unfold Config.groups
  omega

/-- `MAX_VOICES * AMP_Q <= PWM_TOP` (R15, R203). -/
theorem maxVoices_mul_le (c : Config) : c.maxVoices * c.ampQ ≤ c.pwmTop := Nat.div_mul_le_self _ _

/-- `MAX_PITCH_0 + KEYS_NUMBER = NOTE_NUMBER` (R8). -/
theorem WellFormedFacts.maxPitch0_add {c : Config} (h : WellFormedFacts c) :
    c.maxPitch0 + c.keysNumber = c.noteNumber := by
  have := h.notesLo
  unfold Config.maxPitch0
  omega

/-- The ROM has an entry of at least 2 for every note index below NOTE_NUMBER (R18, R72). -/
theorem WellFormedFacts.rom {c : Config} (h : WellFormedFacts c) {n : Nat} (hn : n < c.noteNumber) :
    ∃ p, c.period[n]? = some p ∧ 2 ≤ p.toNat := by
  have hl : n < c.period.length := by rw [h.romSize]; exact hn
  exact ⟨c.period[n], List.getElem?_eq_getElem hl, h.romLo _ (List.getElem_mem hl)⟩

end Sys2Proof
end

