-- ==== Sys2Proof/Laws/Encoding.lean ====
section
/-! SUPPORT. Laws/Encoding.lean: the fields of a built word are the fields it was built from, and a word is its fields. -/

namespace Sys2Proof.Machine

theorem opField_lt (w : Word) : opField w < 16 := (w.extractLsb' 12 4).isLt

theorem idxField_lt (w : Word) : idxField w < 16 := (w.extractLsb' 8 4).isLt

theorem lowField_lt (w : Word) : lowField w < 4096 := (w.extractLsb' 0 12).isLt

theorem opField_eq (w : Word) : opField w = w.toNat / 4096 := by
  have := w.isLt
  simp only [opField, BitVec.extractLsb'_toNat, Nat.shiftRight_eq_div_pow]
  omega

theorem idxField_eq (w : Word) : idxField w = w.toNat / 256 % 16 := by
  simp only [idxField, BitVec.extractLsb'_toNat, Nat.shiftRight_eq_div_pow]

theorem dataField_toNat (w : Word) : (dataField w).toNat = w.toNat % 256 := by
  simp [dataField, BitVec.extractLsb'_toNat]

theorem lowField_eq (w : Word) : lowField w = w.toNat % 4096 := by
  simp only [lowField, BitVec.extractLsb'_toNat, Nat.shiftRight_eq_div_pow]
  omega

theorem mkWord_toNat (op idx : Nat) (b : Byte) :
    (mkWord op idx b).toNat = (op % 16) * 4096 + (idx % 16) * 256 + b.toNat := by
  have hb := b.isLt
  simp only [mkWord, BitVec.toNat_append, BitVec.toNat_ofNat]
  rw [← Nat.shiftLeft_add_eq_or_of_lt (by omega), ← Nat.shiftLeft_add_eq_or_of_lt (by omega)]
  simp only [Nat.shiftLeft_eq]
  omega

@[simp] theorem opField_mkWord (op idx : Nat) (b : Byte) : opField (mkWord op idx b) = op % 16 := by
  have hb := b.isLt
  rw [opField_eq, mkWord_toNat]
  omega

@[simp] theorem idxField_mkWord (op idx : Nat) (b : Byte) : idxField (mkWord op idx b) = idx % 16 := by
  have hb := b.isLt
  rw [idxField_eq, mkWord_toNat]
  omega

@[simp] theorem dataField_mkWord (op idx : Nat) (b : Byte) : dataField (mkWord op idx b) = b := by
  have hb := b.isLt
  apply BitVec.eq_of_toNat_eq
  rw [dataField_toNat, mkWord_toNat]
  omega

theorem lowField_mkWord (op idx : Nat) (b : Byte) :
    lowField (mkWord op idx b) = (idx % 16) * 256 + b.toNat := by
  have hb := b.isLt
  rw [lowField_eq, mkWord_toNat]
  omega

/-- A word is determined by its three fields. -/
theorem mkWord_fields (w : Word) : mkWord (opField w) (idxField w) (dataField w) = w := by
  have := w.isLt
  apply BitVec.eq_of_toNat_eq
  rw [mkWord_toNat, opField_eq, idxField_eq, dataField_toNat]
  omega

/-- With `w[11:0] = 0`, the idx and data fields are 0. -/
theorem lowField_zero (w : Word) : lowField w = 0 ↔ idxField w = 0 ∧ dataField w = 0 := by
  have hd : dataField w = 0 ↔ w.toNat % 256 = 0 := by
    rw [BitVec.toNat_eq, dataField_toNat]; rfl
  rw [hd, lowField_eq, idxField_eq]
  omega

end Sys2Proof.Machine

namespace Sys2Proof

open Sys2Proof.Machine

/-- What a check of `[11:8] = 0` answers. -/
theorem needIdxZero_ok {w : Word} {i j : Instr} : needIdxZero w i = .ok j ↔ idxField w = 0 ∧ i = j := by
  unfold needIdxZero
  split <;> simp_all

/-- What a check of `[11:0] = 0` answers. -/
theorem needLowZero_ok {w : Word} {i j : Instr} : needLowZero w i = .ok j ↔ lowField w = 0 ∧ i = j := by
  unfold needLowZero
  split <;> simp_all

/-- A decoded operation's word has that operation's code in its op field. -/
theorem decode_opcode {w : Word} {i : Instr} (h : decode w = .ok i) : i.opcode = opField w := by
  unfold decode at h
  split at h <;> simp only [needIdxZero_ok, needLowZero_ok, Except.ok.injEq, reduceCtorEq] at h
  all_goals first
    | (subst h; simp_all [Instr.opcode])
    | (obtain ⟨-, rfl⟩ := h; simp_all [Instr.opcode])

/-- A micro-op word's operation travels in SCANQ. -/
theorem decodeMicro_path {w : Word} {i : Instr} (h : decodeMicro w = some i) : i.path = .scanq := by
  unfold decodeMicro at h
  split at h
  · rename_i hop
    cases hd : decode w with
    | error c => simp [hd, Except.toOption] at h
    | ok j =>
      obtain rfl : j = i := by simpa [hd, Except.toOption] using h
      have hc := decode_opcode hd
      rw [← hc] at hop
      cases j <;> simp_all [microOp, Instr.opcode, Instr.path]
  · simp at h

/-- An accepted host word's operation is a host command. -/
theorem decodeHost_path {w : Word} {i : Instr} (h : decodeHost w = .ok i) : i.path = .host := by
  unfold decodeHost at h
  split at h
  · simp at h
  · split at h
    · simp at h
    · rename_i h1 h2
      have hc := decode_opcode h
      rw [← hc] at h1 h2
      cases i <;> simp_all [reservedOp, notHostOp, Instr.opcode, Instr.path]

end Sys2Proof
end

