-- ==== Sys2Proof/Laws/Detector.lean ====
section
/-! SUPPORT. Laws/Detector.lean: the detector's functions one key or one bit at a time, and the clamped add. -/

namespace Sys2Proof.Machine

/-- One key's event names that key and its bit changed. -/
theorem keyEvent_eq_some {cur prev : List Byte} {k : Nat} {e : KeyKind × Nat} :
    keyEvent cur prev k = some e ↔
      (e = (.press, k) ∧ keyDown cur k = true ∧ keyDown prev k = false) ∨
      (e = (.release, k) ∧ keyDown cur k = false ∧ keyDown prev k = true) := by
  unfold keyEvent
  cases keyDown cur k <;> cases keyDown prev k <;> simp [eq_comm]

/-- One key's event is there exactly when its two bits differ. -/
theorem keyEvent_isSome (cur prev : List Byte) (k : Nat) :
    (keyEvent cur prev k).isSome = (keyDown cur k != keyDown prev k) := by
  unfold keyEvent
  cases keyDown cur k <;> cases keyDown prev k <;> rfl

/-- The clamped add, as an integer, when MAX_PITCH_0 fits the register. -/
theorem shiftPitch_toNat {c : Config} (h : c.maxPitch0 < 256) (p : BitVec 8) (d : Int) :
    ((shiftPitch c p d).toNat : Int) = clampInt ((p.toNat : Int) + d) 0 (c.maxPitch0 : Int) := by
  unfold shiftPitch
  have hx : 0 ≤ clampInt ((p.toNat : Int) + d) 0 (c.maxPitch0 : Int) ∧
      clampInt ((p.toNat : Int) + d) 0 (c.maxPitch0 : Int) ≤ c.maxPitch0 := by
    unfold clampInt; omega
  rw [BitVec.toNat_ofInt]
  omega

theorem mem_settingsEdges {cur prev : Byte} {d : Int} (h : d ∈ settingsEdges cur prev) :
    d = -12 ∨ d = 12 ∨ d = -1 ∨ d = 1 := by
  simp only [settingsEdges, settingsDeltas, List.mem_filterMap] at h
  obtain ⟨⟨b, x⟩, hm, hx⟩ := h
  simp only [List.mem_cons, List.not_mem_nil, or_false, Prod.mk.injEq] at hm
  split at hx
  · rw [Option.some.injEq] at hx
    omega
  · simp at hx

theorem settingsEdges_length (cur prev : Byte) : (settingsEdges cur prev).length ≤ 4 :=
  List.length_filterMap_le _ _

theorem potMsgBytes_length (s : State) : (potMsgBytes s).length ≤ 6 := by
  unfold potMsgBytes
  split <;> split <;> simp

theorem statusPart_length (s : State) : (statusPart s).length ≤ 1 := by
  unfold statusPart
  split <;> simp

end Sys2Proof.Machine
end

