-- ==== Sys2Proof/Laws/State.lean ====
section
/-! SUPPORT. Laws/State.lean: one lemma a field for each named update of Machine/Ops.lean, so that no later proof unfolds
an update. -/

namespace Sys2Proof.Machine

@[simp] theorem State.setKeycur_cfg (s : State) (v : List Byte) : (s.setKeycur v).cfg = s.cfg := rfl
@[simp] theorem State.setKeycur_mode (s : State) (v : List Byte) : (s.setKeycur v).mode = s.mode := rfl
@[simp] theorem State.setKeycur_keycur (s : State) (v : List Byte) : (s.setKeycur v).keycur = v := rfl
@[simp] theorem State.setKeycur_keyprev (s : State) (v : List Byte) : (s.setKeycur v).keyprev = s.keyprev := rfl
@[simp] theorem State.setKeycur_setcur (s : State) (v : List Byte) : (s.setKeycur v).setcur = s.setcur := rfl
@[simp] theorem State.setKeycur_setprev (s : State) (v : List Byte) : (s.setKeycur v).setprev = s.setprev := rfl
@[simp] theorem State.setKeycur_potval0 (s : State) (v : List Byte) : (s.setKeycur v).potval0 = s.potval0 := rfl
@[simp] theorem State.setKeycur_potval1 (s : State) (v : List Byte) : (s.setKeycur v).potval1 = s.potval1 := rfl
@[simp] theorem State.setKeycur_potchg (s : State) (v : List Byte) : (s.setKeycur v).potchg = s.potchg := rfl
@[simp] theorem State.setKeycur_pitch0 (s : State) (v : List Byte) : (s.setKeycur v).pitch0 = s.pitch0 := rfl
@[simp] theorem State.setKeycur_cmderr (s : State) (v : List Byte) : (s.setKeycur v).cmderr = s.cmderr := rfl
@[simp] theorem State.setKeycur_errcause (s : State) (v : List Byte) : (s.setKeycur v).errcause = s.errcause := rfl
@[simp] theorem State.setKeycur_duty (s : State) (v : List Byte) : (s.setKeycur v).duty = s.duty := rfl
@[simp] theorem State.setKeycur_voices (s : State) (v : List Byte) : (s.setKeycur v).voices = s.voices := rfl
@[simp] theorem State.setKeycur_time (s : State) (v : List Byte) : (s.setKeycur v).time = s.time := rfl
@[simp] theorem State.setKeycur_laststatus (s : State) (v : List Byte) : (s.setKeycur v).laststatus = s.laststatus := rfl
@[simp] theorem State.setKeycur_rdata (s : State) (v : List Byte) : (s.setKeycur v).rdata = s.rdata := rfl
@[simp] theorem State.setKeycur_scanq (s : State) (v : List Byte) : (s.setKeycur v).scanq = s.scanq := rfl
@[simp] theorem State.setKeycur_serout (s : State) (v : List Byte) : (s.setKeycur v).serout = s.serout := rfl
@[simp] theorem State.setKeycur_env (s : State) (v : List Byte) : (s.setKeycur v).env = s.env := rfl

@[simp] theorem State.setKeyprev_cfg (s : State) (v : List Byte) : (s.setKeyprev v).cfg = s.cfg := rfl
@[simp] theorem State.setKeyprev_mode (s : State) (v : List Byte) : (s.setKeyprev v).mode = s.mode := rfl
@[simp] theorem State.setKeyprev_keycur (s : State) (v : List Byte) : (s.setKeyprev v).keycur = s.keycur := rfl
@[simp] theorem State.setKeyprev_keyprev (s : State) (v : List Byte) : (s.setKeyprev v).keyprev = v := rfl
@[simp] theorem State.setKeyprev_setcur (s : State) (v : List Byte) : (s.setKeyprev v).setcur = s.setcur := rfl
@[simp] theorem State.setKeyprev_setprev (s : State) (v : List Byte) : (s.setKeyprev v).setprev = s.setprev := rfl
@[simp] theorem State.setKeyprev_potval0 (s : State) (v : List Byte) : (s.setKeyprev v).potval0 = s.potval0 := rfl
@[simp] theorem State.setKeyprev_potval1 (s : State) (v : List Byte) : (s.setKeyprev v).potval1 = s.potval1 := rfl
@[simp] theorem State.setKeyprev_potchg (s : State) (v : List Byte) : (s.setKeyprev v).potchg = s.potchg := rfl
@[simp] theorem State.setKeyprev_pitch0 (s : State) (v : List Byte) : (s.setKeyprev v).pitch0 = s.pitch0 := rfl
@[simp] theorem State.setKeyprev_cmderr (s : State) (v : List Byte) : (s.setKeyprev v).cmderr = s.cmderr := rfl
@[simp] theorem State.setKeyprev_errcause (s : State) (v : List Byte) : (s.setKeyprev v).errcause = s.errcause := rfl
@[simp] theorem State.setKeyprev_duty (s : State) (v : List Byte) : (s.setKeyprev v).duty = s.duty := rfl
@[simp] theorem State.setKeyprev_voices (s : State) (v : List Byte) : (s.setKeyprev v).voices = s.voices := rfl
@[simp] theorem State.setKeyprev_time (s : State) (v : List Byte) : (s.setKeyprev v).time = s.time := rfl
@[simp] theorem State.setKeyprev_laststatus (s : State) (v : List Byte) : (s.setKeyprev v).laststatus = s.laststatus := rfl
@[simp] theorem State.setKeyprev_rdata (s : State) (v : List Byte) : (s.setKeyprev v).rdata = s.rdata := rfl
@[simp] theorem State.setKeyprev_scanq (s : State) (v : List Byte) : (s.setKeyprev v).scanq = s.scanq := rfl
@[simp] theorem State.setKeyprev_serout (s : State) (v : List Byte) : (s.setKeyprev v).serout = s.serout := rfl
@[simp] theorem State.setKeyprev_env (s : State) (v : List Byte) : (s.setKeyprev v).env = s.env := rfl

@[simp] theorem State.setSetcur_cfg (s : State) (v : Byte) : (s.setSetcur v).cfg = s.cfg := rfl
@[simp] theorem State.setSetcur_mode (s : State) (v : Byte) : (s.setSetcur v).mode = s.mode := rfl
@[simp] theorem State.setSetcur_keycur (s : State) (v : Byte) : (s.setSetcur v).keycur = s.keycur := rfl
@[simp] theorem State.setSetcur_keyprev (s : State) (v : Byte) : (s.setSetcur v).keyprev = s.keyprev := rfl
@[simp] theorem State.setSetcur_setcur (s : State) (v : Byte) : (s.setSetcur v).setcur = v := rfl
@[simp] theorem State.setSetcur_setprev (s : State) (v : Byte) : (s.setSetcur v).setprev = s.setprev := rfl
@[simp] theorem State.setSetcur_potval0 (s : State) (v : Byte) : (s.setSetcur v).potval0 = s.potval0 := rfl
@[simp] theorem State.setSetcur_potval1 (s : State) (v : Byte) : (s.setSetcur v).potval1 = s.potval1 := rfl
@[simp] theorem State.setSetcur_potchg (s : State) (v : Byte) : (s.setSetcur v).potchg = s.potchg := rfl
@[simp] theorem State.setSetcur_pitch0 (s : State) (v : Byte) : (s.setSetcur v).pitch0 = s.pitch0 := rfl
@[simp] theorem State.setSetcur_cmderr (s : State) (v : Byte) : (s.setSetcur v).cmderr = s.cmderr := rfl
@[simp] theorem State.setSetcur_errcause (s : State) (v : Byte) : (s.setSetcur v).errcause = s.errcause := rfl
@[simp] theorem State.setSetcur_duty (s : State) (v : Byte) : (s.setSetcur v).duty = s.duty := rfl
@[simp] theorem State.setSetcur_voices (s : State) (v : Byte) : (s.setSetcur v).voices = s.voices := rfl
@[simp] theorem State.setSetcur_time (s : State) (v : Byte) : (s.setSetcur v).time = s.time := rfl
@[simp] theorem State.setSetcur_laststatus (s : State) (v : Byte) : (s.setSetcur v).laststatus = s.laststatus := rfl
@[simp] theorem State.setSetcur_rdata (s : State) (v : Byte) : (s.setSetcur v).rdata = s.rdata := rfl
@[simp] theorem State.setSetcur_scanq (s : State) (v : Byte) : (s.setSetcur v).scanq = s.scanq := rfl
@[simp] theorem State.setSetcur_serout (s : State) (v : Byte) : (s.setSetcur v).serout = s.serout := rfl
@[simp] theorem State.setSetcur_env (s : State) (v : Byte) : (s.setSetcur v).env = s.env := rfl

@[simp] theorem State.setSetprev_cfg (s : State) (v : Byte) : (s.setSetprev v).cfg = s.cfg := rfl
@[simp] theorem State.setSetprev_mode (s : State) (v : Byte) : (s.setSetprev v).mode = s.mode := rfl
@[simp] theorem State.setSetprev_keycur (s : State) (v : Byte) : (s.setSetprev v).keycur = s.keycur := rfl
@[simp] theorem State.setSetprev_keyprev (s : State) (v : Byte) : (s.setSetprev v).keyprev = s.keyprev := rfl
@[simp] theorem State.setSetprev_setcur (s : State) (v : Byte) : (s.setSetprev v).setcur = s.setcur := rfl
@[simp] theorem State.setSetprev_setprev (s : State) (v : Byte) : (s.setSetprev v).setprev = v := rfl
@[simp] theorem State.setSetprev_potval0 (s : State) (v : Byte) : (s.setSetprev v).potval0 = s.potval0 := rfl
@[simp] theorem State.setSetprev_potval1 (s : State) (v : Byte) : (s.setSetprev v).potval1 = s.potval1 := rfl
@[simp] theorem State.setSetprev_potchg (s : State) (v : Byte) : (s.setSetprev v).potchg = s.potchg := rfl
@[simp] theorem State.setSetprev_pitch0 (s : State) (v : Byte) : (s.setSetprev v).pitch0 = s.pitch0 := rfl
@[simp] theorem State.setSetprev_cmderr (s : State) (v : Byte) : (s.setSetprev v).cmderr = s.cmderr := rfl
@[simp] theorem State.setSetprev_errcause (s : State) (v : Byte) : (s.setSetprev v).errcause = s.errcause := rfl
@[simp] theorem State.setSetprev_duty (s : State) (v : Byte) : (s.setSetprev v).duty = s.duty := rfl
@[simp] theorem State.setSetprev_voices (s : State) (v : Byte) : (s.setSetprev v).voices = s.voices := rfl
@[simp] theorem State.setSetprev_time (s : State) (v : Byte) : (s.setSetprev v).time = s.time := rfl
@[simp] theorem State.setSetprev_laststatus (s : State) (v : Byte) : (s.setSetprev v).laststatus = s.laststatus := rfl
@[simp] theorem State.setSetprev_rdata (s : State) (v : Byte) : (s.setSetprev v).rdata = s.rdata := rfl
@[simp] theorem State.setSetprev_scanq (s : State) (v : Byte) : (s.setSetprev v).scanq = s.scanq := rfl
@[simp] theorem State.setSetprev_serout (s : State) (v : Byte) : (s.setSetprev v).serout = s.serout := rfl
@[simp] theorem State.setSetprev_env (s : State) (v : Byte) : (s.setSetprev v).env = s.env := rfl

@[simp] theorem State.setPotval0_cfg (s : State) (v : Byte) : (s.setPotval0 v).cfg = s.cfg := rfl
@[simp] theorem State.setPotval0_mode (s : State) (v : Byte) : (s.setPotval0 v).mode = s.mode := rfl
@[simp] theorem State.setPotval0_keycur (s : State) (v : Byte) : (s.setPotval0 v).keycur = s.keycur := rfl
@[simp] theorem State.setPotval0_keyprev (s : State) (v : Byte) : (s.setPotval0 v).keyprev = s.keyprev := rfl
@[simp] theorem State.setPotval0_setcur (s : State) (v : Byte) : (s.setPotval0 v).setcur = s.setcur := rfl
@[simp] theorem State.setPotval0_setprev (s : State) (v : Byte) : (s.setPotval0 v).setprev = s.setprev := rfl
@[simp] theorem State.setPotval0_potval0 (s : State) (v : Byte) : (s.setPotval0 v).potval0 = v := rfl
@[simp] theorem State.setPotval0_potval1 (s : State) (v : Byte) : (s.setPotval0 v).potval1 = s.potval1 := rfl
@[simp] theorem State.setPotval0_potchg (s : State) (v : Byte) : (s.setPotval0 v).potchg = s.potchg := rfl
@[simp] theorem State.setPotval0_pitch0 (s : State) (v : Byte) : (s.setPotval0 v).pitch0 = s.pitch0 := rfl
@[simp] theorem State.setPotval0_cmderr (s : State) (v : Byte) : (s.setPotval0 v).cmderr = s.cmderr := rfl
@[simp] theorem State.setPotval0_errcause (s : State) (v : Byte) : (s.setPotval0 v).errcause = s.errcause := rfl
@[simp] theorem State.setPotval0_duty (s : State) (v : Byte) : (s.setPotval0 v).duty = s.duty := rfl
@[simp] theorem State.setPotval0_voices (s : State) (v : Byte) : (s.setPotval0 v).voices = s.voices := rfl
@[simp] theorem State.setPotval0_time (s : State) (v : Byte) : (s.setPotval0 v).time = s.time := rfl
@[simp] theorem State.setPotval0_laststatus (s : State) (v : Byte) : (s.setPotval0 v).laststatus = s.laststatus := rfl
@[simp] theorem State.setPotval0_rdata (s : State) (v : Byte) : (s.setPotval0 v).rdata = s.rdata := rfl
@[simp] theorem State.setPotval0_scanq (s : State) (v : Byte) : (s.setPotval0 v).scanq = s.scanq := rfl
@[simp] theorem State.setPotval0_serout (s : State) (v : Byte) : (s.setPotval0 v).serout = s.serout := rfl
@[simp] theorem State.setPotval0_env (s : State) (v : Byte) : (s.setPotval0 v).env = s.env := rfl

@[simp] theorem State.setPotval1_cfg (s : State) (v : Byte) : (s.setPotval1 v).cfg = s.cfg := rfl
@[simp] theorem State.setPotval1_mode (s : State) (v : Byte) : (s.setPotval1 v).mode = s.mode := rfl
@[simp] theorem State.setPotval1_keycur (s : State) (v : Byte) : (s.setPotval1 v).keycur = s.keycur := rfl
@[simp] theorem State.setPotval1_keyprev (s : State) (v : Byte) : (s.setPotval1 v).keyprev = s.keyprev := rfl
@[simp] theorem State.setPotval1_setcur (s : State) (v : Byte) : (s.setPotval1 v).setcur = s.setcur := rfl
@[simp] theorem State.setPotval1_setprev (s : State) (v : Byte) : (s.setPotval1 v).setprev = s.setprev := rfl
@[simp] theorem State.setPotval1_potval0 (s : State) (v : Byte) : (s.setPotval1 v).potval0 = s.potval0 := rfl
@[simp] theorem State.setPotval1_potval1 (s : State) (v : Byte) : (s.setPotval1 v).potval1 = v := rfl
@[simp] theorem State.setPotval1_potchg (s : State) (v : Byte) : (s.setPotval1 v).potchg = s.potchg := rfl
@[simp] theorem State.setPotval1_pitch0 (s : State) (v : Byte) : (s.setPotval1 v).pitch0 = s.pitch0 := rfl
@[simp] theorem State.setPotval1_cmderr (s : State) (v : Byte) : (s.setPotval1 v).cmderr = s.cmderr := rfl
@[simp] theorem State.setPotval1_errcause (s : State) (v : Byte) : (s.setPotval1 v).errcause = s.errcause := rfl
@[simp] theorem State.setPotval1_duty (s : State) (v : Byte) : (s.setPotval1 v).duty = s.duty := rfl
@[simp] theorem State.setPotval1_voices (s : State) (v : Byte) : (s.setPotval1 v).voices = s.voices := rfl
@[simp] theorem State.setPotval1_time (s : State) (v : Byte) : (s.setPotval1 v).time = s.time := rfl
@[simp] theorem State.setPotval1_laststatus (s : State) (v : Byte) : (s.setPotval1 v).laststatus = s.laststatus := rfl
@[simp] theorem State.setPotval1_rdata (s : State) (v : Byte) : (s.setPotval1 v).rdata = s.rdata := rfl
@[simp] theorem State.setPotval1_scanq (s : State) (v : Byte) : (s.setPotval1 v).scanq = s.scanq := rfl
@[simp] theorem State.setPotval1_serout (s : State) (v : Byte) : (s.setPotval1 v).serout = s.serout := rfl
@[simp] theorem State.setPotval1_env (s : State) (v : Byte) : (s.setPotval1 v).env = s.env := rfl

@[simp] theorem State.setPotchg_cfg (s : State) (v : BitVec 2) : (s.setPotchg v).cfg = s.cfg := rfl
@[simp] theorem State.setPotchg_mode (s : State) (v : BitVec 2) : (s.setPotchg v).mode = s.mode := rfl
@[simp] theorem State.setPotchg_keycur (s : State) (v : BitVec 2) : (s.setPotchg v).keycur = s.keycur := rfl
@[simp] theorem State.setPotchg_keyprev (s : State) (v : BitVec 2) : (s.setPotchg v).keyprev = s.keyprev := rfl
@[simp] theorem State.setPotchg_setcur (s : State) (v : BitVec 2) : (s.setPotchg v).setcur = s.setcur := rfl
@[simp] theorem State.setPotchg_setprev (s : State) (v : BitVec 2) : (s.setPotchg v).setprev = s.setprev := rfl
@[simp] theorem State.setPotchg_potval0 (s : State) (v : BitVec 2) : (s.setPotchg v).potval0 = s.potval0 := rfl
@[simp] theorem State.setPotchg_potval1 (s : State) (v : BitVec 2) : (s.setPotchg v).potval1 = s.potval1 := rfl
@[simp] theorem State.setPotchg_potchg (s : State) (v : BitVec 2) : (s.setPotchg v).potchg = v := rfl
@[simp] theorem State.setPotchg_pitch0 (s : State) (v : BitVec 2) : (s.setPotchg v).pitch0 = s.pitch0 := rfl
@[simp] theorem State.setPotchg_cmderr (s : State) (v : BitVec 2) : (s.setPotchg v).cmderr = s.cmderr := rfl
@[simp] theorem State.setPotchg_errcause (s : State) (v : BitVec 2) : (s.setPotchg v).errcause = s.errcause := rfl
@[simp] theorem State.setPotchg_duty (s : State) (v : BitVec 2) : (s.setPotchg v).duty = s.duty := rfl
@[simp] theorem State.setPotchg_voices (s : State) (v : BitVec 2) : (s.setPotchg v).voices = s.voices := rfl
@[simp] theorem State.setPotchg_time (s : State) (v : BitVec 2) : (s.setPotchg v).time = s.time := rfl
@[simp] theorem State.setPotchg_laststatus (s : State) (v : BitVec 2) : (s.setPotchg v).laststatus = s.laststatus := rfl
@[simp] theorem State.setPotchg_rdata (s : State) (v : BitVec 2) : (s.setPotchg v).rdata = s.rdata := rfl
@[simp] theorem State.setPotchg_scanq (s : State) (v : BitVec 2) : (s.setPotchg v).scanq = s.scanq := rfl
@[simp] theorem State.setPotchg_serout (s : State) (v : BitVec 2) : (s.setPotchg v).serout = s.serout := rfl
@[simp] theorem State.setPotchg_env (s : State) (v : BitVec 2) : (s.setPotchg v).env = s.env := rfl

@[simp] theorem State.setPitch0_cfg (s : State) (v : BitVec 8) : (s.setPitch0 v).cfg = s.cfg := rfl
@[simp] theorem State.setPitch0_mode (s : State) (v : BitVec 8) : (s.setPitch0 v).mode = s.mode := rfl
@[simp] theorem State.setPitch0_keycur (s : State) (v : BitVec 8) : (s.setPitch0 v).keycur = s.keycur := rfl
@[simp] theorem State.setPitch0_keyprev (s : State) (v : BitVec 8) : (s.setPitch0 v).keyprev = s.keyprev := rfl
@[simp] theorem State.setPitch0_setcur (s : State) (v : BitVec 8) : (s.setPitch0 v).setcur = s.setcur := rfl
@[simp] theorem State.setPitch0_setprev (s : State) (v : BitVec 8) : (s.setPitch0 v).setprev = s.setprev := rfl
@[simp] theorem State.setPitch0_potval0 (s : State) (v : BitVec 8) : (s.setPitch0 v).potval0 = s.potval0 := rfl
@[simp] theorem State.setPitch0_potval1 (s : State) (v : BitVec 8) : (s.setPitch0 v).potval1 = s.potval1 := rfl
@[simp] theorem State.setPitch0_potchg (s : State) (v : BitVec 8) : (s.setPitch0 v).potchg = s.potchg := rfl
@[simp] theorem State.setPitch0_pitch0 (s : State) (v : BitVec 8) : (s.setPitch0 v).pitch0 = v := rfl
@[simp] theorem State.setPitch0_cmderr (s : State) (v : BitVec 8) : (s.setPitch0 v).cmderr = s.cmderr := rfl
@[simp] theorem State.setPitch0_errcause (s : State) (v : BitVec 8) : (s.setPitch0 v).errcause = s.errcause := rfl
@[simp] theorem State.setPitch0_duty (s : State) (v : BitVec 8) : (s.setPitch0 v).duty = s.duty := rfl
@[simp] theorem State.setPitch0_voices (s : State) (v : BitVec 8) : (s.setPitch0 v).voices = s.voices := rfl
@[simp] theorem State.setPitch0_time (s : State) (v : BitVec 8) : (s.setPitch0 v).time = s.time := rfl
@[simp] theorem State.setPitch0_laststatus (s : State) (v : BitVec 8) : (s.setPitch0 v).laststatus = s.laststatus := rfl
@[simp] theorem State.setPitch0_rdata (s : State) (v : BitVec 8) : (s.setPitch0 v).rdata = s.rdata := rfl
@[simp] theorem State.setPitch0_scanq (s : State) (v : BitVec 8) : (s.setPitch0 v).scanq = s.scanq := rfl
@[simp] theorem State.setPitch0_serout (s : State) (v : BitVec 8) : (s.setPitch0 v).serout = s.serout := rfl
@[simp] theorem State.setPitch0_env (s : State) (v : BitVec 8) : (s.setPitch0 v).env = s.env := rfl

@[simp] theorem State.setCmderr_cfg (s : State) (v : Bool) : (s.setCmderr v).cfg = s.cfg := rfl
@[simp] theorem State.setCmderr_mode (s : State) (v : Bool) : (s.setCmderr v).mode = s.mode := rfl
@[simp] theorem State.setCmderr_keycur (s : State) (v : Bool) : (s.setCmderr v).keycur = s.keycur := rfl
@[simp] theorem State.setCmderr_keyprev (s : State) (v : Bool) : (s.setCmderr v).keyprev = s.keyprev := rfl
@[simp] theorem State.setCmderr_setcur (s : State) (v : Bool) : (s.setCmderr v).setcur = s.setcur := rfl
@[simp] theorem State.setCmderr_setprev (s : State) (v : Bool) : (s.setCmderr v).setprev = s.setprev := rfl
@[simp] theorem State.setCmderr_potval0 (s : State) (v : Bool) : (s.setCmderr v).potval0 = s.potval0 := rfl
@[simp] theorem State.setCmderr_potval1 (s : State) (v : Bool) : (s.setCmderr v).potval1 = s.potval1 := rfl
@[simp] theorem State.setCmderr_potchg (s : State) (v : Bool) : (s.setCmderr v).potchg = s.potchg := rfl
@[simp] theorem State.setCmderr_pitch0 (s : State) (v : Bool) : (s.setCmderr v).pitch0 = s.pitch0 := rfl
@[simp] theorem State.setCmderr_cmderr (s : State) (v : Bool) : (s.setCmderr v).cmderr = v := rfl
@[simp] theorem State.setCmderr_errcause (s : State) (v : Bool) : (s.setCmderr v).errcause = s.errcause := rfl
@[simp] theorem State.setCmderr_duty (s : State) (v : Bool) : (s.setCmderr v).duty = s.duty := rfl
@[simp] theorem State.setCmderr_voices (s : State) (v : Bool) : (s.setCmderr v).voices = s.voices := rfl
@[simp] theorem State.setCmderr_time (s : State) (v : Bool) : (s.setCmderr v).time = s.time := rfl
@[simp] theorem State.setCmderr_laststatus (s : State) (v : Bool) : (s.setCmderr v).laststatus = s.laststatus := rfl
@[simp] theorem State.setCmderr_rdata (s : State) (v : Bool) : (s.setCmderr v).rdata = s.rdata := rfl
@[simp] theorem State.setCmderr_scanq (s : State) (v : Bool) : (s.setCmderr v).scanq = s.scanq := rfl
@[simp] theorem State.setCmderr_serout (s : State) (v : Bool) : (s.setCmderr v).serout = s.serout := rfl
@[simp] theorem State.setCmderr_env (s : State) (v : Bool) : (s.setCmderr v).env = s.env := rfl

@[simp] theorem State.setErrcause_cfg (s : State) (v : BitVec 3) : (s.setErrcause v).cfg = s.cfg := rfl
@[simp] theorem State.setErrcause_mode (s : State) (v : BitVec 3) : (s.setErrcause v).mode = s.mode := rfl
@[simp] theorem State.setErrcause_keycur (s : State) (v : BitVec 3) : (s.setErrcause v).keycur = s.keycur := rfl
@[simp] theorem State.setErrcause_keyprev (s : State) (v : BitVec 3) : (s.setErrcause v).keyprev = s.keyprev := rfl
@[simp] theorem State.setErrcause_setcur (s : State) (v : BitVec 3) : (s.setErrcause v).setcur = s.setcur := rfl
@[simp] theorem State.setErrcause_setprev (s : State) (v : BitVec 3) : (s.setErrcause v).setprev = s.setprev := rfl
@[simp] theorem State.setErrcause_potval0 (s : State) (v : BitVec 3) : (s.setErrcause v).potval0 = s.potval0 := rfl
@[simp] theorem State.setErrcause_potval1 (s : State) (v : BitVec 3) : (s.setErrcause v).potval1 = s.potval1 := rfl
@[simp] theorem State.setErrcause_potchg (s : State) (v : BitVec 3) : (s.setErrcause v).potchg = s.potchg := rfl
@[simp] theorem State.setErrcause_pitch0 (s : State) (v : BitVec 3) : (s.setErrcause v).pitch0 = s.pitch0 := rfl
@[simp] theorem State.setErrcause_cmderr (s : State) (v : BitVec 3) : (s.setErrcause v).cmderr = s.cmderr := rfl
@[simp] theorem State.setErrcause_errcause (s : State) (v : BitVec 3) : (s.setErrcause v).errcause = v := rfl
@[simp] theorem State.setErrcause_duty (s : State) (v : BitVec 3) : (s.setErrcause v).duty = s.duty := rfl
@[simp] theorem State.setErrcause_voices (s : State) (v : BitVec 3) : (s.setErrcause v).voices = s.voices := rfl
@[simp] theorem State.setErrcause_time (s : State) (v : BitVec 3) : (s.setErrcause v).time = s.time := rfl
@[simp] theorem State.setErrcause_laststatus (s : State) (v : BitVec 3) : (s.setErrcause v).laststatus = s.laststatus := rfl
@[simp] theorem State.setErrcause_rdata (s : State) (v : BitVec 3) : (s.setErrcause v).rdata = s.rdata := rfl
@[simp] theorem State.setErrcause_scanq (s : State) (v : BitVec 3) : (s.setErrcause v).scanq = s.scanq := rfl
@[simp] theorem State.setErrcause_serout (s : State) (v : BitVec 3) : (s.setErrcause v).serout = s.serout := rfl
@[simp] theorem State.setErrcause_env (s : State) (v : BitVec 3) : (s.setErrcause v).env = s.env := rfl

@[simp] theorem State.setDuty_cfg (s : State) (v : BitVec 16) : (s.setDuty v).cfg = s.cfg := rfl
@[simp] theorem State.setDuty_mode (s : State) (v : BitVec 16) : (s.setDuty v).mode = s.mode := rfl
@[simp] theorem State.setDuty_keycur (s : State) (v : BitVec 16) : (s.setDuty v).keycur = s.keycur := rfl
@[simp] theorem State.setDuty_keyprev (s : State) (v : BitVec 16) : (s.setDuty v).keyprev = s.keyprev := rfl
@[simp] theorem State.setDuty_setcur (s : State) (v : BitVec 16) : (s.setDuty v).setcur = s.setcur := rfl
@[simp] theorem State.setDuty_setprev (s : State) (v : BitVec 16) : (s.setDuty v).setprev = s.setprev := rfl
@[simp] theorem State.setDuty_potval0 (s : State) (v : BitVec 16) : (s.setDuty v).potval0 = s.potval0 := rfl
@[simp] theorem State.setDuty_potval1 (s : State) (v : BitVec 16) : (s.setDuty v).potval1 = s.potval1 := rfl
@[simp] theorem State.setDuty_potchg (s : State) (v : BitVec 16) : (s.setDuty v).potchg = s.potchg := rfl
@[simp] theorem State.setDuty_pitch0 (s : State) (v : BitVec 16) : (s.setDuty v).pitch0 = s.pitch0 := rfl
@[simp] theorem State.setDuty_cmderr (s : State) (v : BitVec 16) : (s.setDuty v).cmderr = s.cmderr := rfl
@[simp] theorem State.setDuty_errcause (s : State) (v : BitVec 16) : (s.setDuty v).errcause = s.errcause := rfl
@[simp] theorem State.setDuty_duty (s : State) (v : BitVec 16) : (s.setDuty v).duty = v := rfl
@[simp] theorem State.setDuty_voices (s : State) (v : BitVec 16) : (s.setDuty v).voices = s.voices := rfl
@[simp] theorem State.setDuty_time (s : State) (v : BitVec 16) : (s.setDuty v).time = s.time := rfl
@[simp] theorem State.setDuty_laststatus (s : State) (v : BitVec 16) : (s.setDuty v).laststatus = s.laststatus := rfl
@[simp] theorem State.setDuty_rdata (s : State) (v : BitVec 16) : (s.setDuty v).rdata = s.rdata := rfl
@[simp] theorem State.setDuty_scanq (s : State) (v : BitVec 16) : (s.setDuty v).scanq = s.scanq := rfl
@[simp] theorem State.setDuty_serout (s : State) (v : BitVec 16) : (s.setDuty v).serout = s.serout := rfl
@[simp] theorem State.setDuty_env (s : State) (v : BitVec 16) : (s.setDuty v).env = s.env := rfl

@[simp] theorem State.setVoices_cfg (s : State) (v : List Voice) : (s.setVoices v).cfg = s.cfg := rfl
@[simp] theorem State.setVoices_mode (s : State) (v : List Voice) : (s.setVoices v).mode = s.mode := rfl
@[simp] theorem State.setVoices_keycur (s : State) (v : List Voice) : (s.setVoices v).keycur = s.keycur := rfl
@[simp] theorem State.setVoices_keyprev (s : State) (v : List Voice) : (s.setVoices v).keyprev = s.keyprev := rfl
@[simp] theorem State.setVoices_setcur (s : State) (v : List Voice) : (s.setVoices v).setcur = s.setcur := rfl
@[simp] theorem State.setVoices_setprev (s : State) (v : List Voice) : (s.setVoices v).setprev = s.setprev := rfl
@[simp] theorem State.setVoices_potval0 (s : State) (v : List Voice) : (s.setVoices v).potval0 = s.potval0 := rfl
@[simp] theorem State.setVoices_potval1 (s : State) (v : List Voice) : (s.setVoices v).potval1 = s.potval1 := rfl
@[simp] theorem State.setVoices_potchg (s : State) (v : List Voice) : (s.setVoices v).potchg = s.potchg := rfl
@[simp] theorem State.setVoices_pitch0 (s : State) (v : List Voice) : (s.setVoices v).pitch0 = s.pitch0 := rfl
@[simp] theorem State.setVoices_cmderr (s : State) (v : List Voice) : (s.setVoices v).cmderr = s.cmderr := rfl
@[simp] theorem State.setVoices_errcause (s : State) (v : List Voice) : (s.setVoices v).errcause = s.errcause := rfl
@[simp] theorem State.setVoices_duty (s : State) (v : List Voice) : (s.setVoices v).duty = s.duty := rfl
@[simp] theorem State.setVoices_voices (s : State) (v : List Voice) : (s.setVoices v).voices = v := rfl
@[simp] theorem State.setVoices_time (s : State) (v : List Voice) : (s.setVoices v).time = s.time := rfl
@[simp] theorem State.setVoices_laststatus (s : State) (v : List Voice) : (s.setVoices v).laststatus = s.laststatus := rfl
@[simp] theorem State.setVoices_rdata (s : State) (v : List Voice) : (s.setVoices v).rdata = s.rdata := rfl
@[simp] theorem State.setVoices_scanq (s : State) (v : List Voice) : (s.setVoices v).scanq = s.scanq := rfl
@[simp] theorem State.setVoices_serout (s : State) (v : List Voice) : (s.setVoices v).serout = s.serout := rfl
@[simp] theorem State.setVoices_env (s : State) (v : List Voice) : (s.setVoices v).env = s.env := rfl

@[simp] theorem State.setTime_cfg (s : State) (v : BitVec 32) : (s.setTime v).cfg = s.cfg := rfl
@[simp] theorem State.setTime_mode (s : State) (v : BitVec 32) : (s.setTime v).mode = s.mode := rfl
@[simp] theorem State.setTime_keycur (s : State) (v : BitVec 32) : (s.setTime v).keycur = s.keycur := rfl
@[simp] theorem State.setTime_keyprev (s : State) (v : BitVec 32) : (s.setTime v).keyprev = s.keyprev := rfl
@[simp] theorem State.setTime_setcur (s : State) (v : BitVec 32) : (s.setTime v).setcur = s.setcur := rfl
@[simp] theorem State.setTime_setprev (s : State) (v : BitVec 32) : (s.setTime v).setprev = s.setprev := rfl
@[simp] theorem State.setTime_potval0 (s : State) (v : BitVec 32) : (s.setTime v).potval0 = s.potval0 := rfl
@[simp] theorem State.setTime_potval1 (s : State) (v : BitVec 32) : (s.setTime v).potval1 = s.potval1 := rfl
@[simp] theorem State.setTime_potchg (s : State) (v : BitVec 32) : (s.setTime v).potchg = s.potchg := rfl
@[simp] theorem State.setTime_pitch0 (s : State) (v : BitVec 32) : (s.setTime v).pitch0 = s.pitch0 := rfl
@[simp] theorem State.setTime_cmderr (s : State) (v : BitVec 32) : (s.setTime v).cmderr = s.cmderr := rfl
@[simp] theorem State.setTime_errcause (s : State) (v : BitVec 32) : (s.setTime v).errcause = s.errcause := rfl
@[simp] theorem State.setTime_duty (s : State) (v : BitVec 32) : (s.setTime v).duty = s.duty := rfl
@[simp] theorem State.setTime_voices (s : State) (v : BitVec 32) : (s.setTime v).voices = s.voices := rfl
@[simp] theorem State.setTime_time (s : State) (v : BitVec 32) : (s.setTime v).time = v := rfl
@[simp] theorem State.setTime_laststatus (s : State) (v : BitVec 32) : (s.setTime v).laststatus = s.laststatus := rfl
@[simp] theorem State.setTime_rdata (s : State) (v : BitVec 32) : (s.setTime v).rdata = s.rdata := rfl
@[simp] theorem State.setTime_scanq (s : State) (v : BitVec 32) : (s.setTime v).scanq = s.scanq := rfl
@[simp] theorem State.setTime_serout (s : State) (v : BitVec 32) : (s.setTime v).serout = s.serout := rfl
@[simp] theorem State.setTime_env (s : State) (v : BitVec 32) : (s.setTime v).env = s.env := rfl

@[simp] theorem State.setLaststatus_cfg (s : State) (v : Byte) : (s.setLaststatus v).cfg = s.cfg := rfl
@[simp] theorem State.setLaststatus_mode (s : State) (v : Byte) : (s.setLaststatus v).mode = s.mode := rfl
@[simp] theorem State.setLaststatus_keycur (s : State) (v : Byte) : (s.setLaststatus v).keycur = s.keycur := rfl
@[simp] theorem State.setLaststatus_keyprev (s : State) (v : Byte) : (s.setLaststatus v).keyprev = s.keyprev := rfl
@[simp] theorem State.setLaststatus_setcur (s : State) (v : Byte) : (s.setLaststatus v).setcur = s.setcur := rfl
@[simp] theorem State.setLaststatus_setprev (s : State) (v : Byte) : (s.setLaststatus v).setprev = s.setprev := rfl
@[simp] theorem State.setLaststatus_potval0 (s : State) (v : Byte) : (s.setLaststatus v).potval0 = s.potval0 := rfl
@[simp] theorem State.setLaststatus_potval1 (s : State) (v : Byte) : (s.setLaststatus v).potval1 = s.potval1 := rfl
@[simp] theorem State.setLaststatus_potchg (s : State) (v : Byte) : (s.setLaststatus v).potchg = s.potchg := rfl
@[simp] theorem State.setLaststatus_pitch0 (s : State) (v : Byte) : (s.setLaststatus v).pitch0 = s.pitch0 := rfl
@[simp] theorem State.setLaststatus_cmderr (s : State) (v : Byte) : (s.setLaststatus v).cmderr = s.cmderr := rfl
@[simp] theorem State.setLaststatus_errcause (s : State) (v : Byte) : (s.setLaststatus v).errcause = s.errcause := rfl
@[simp] theorem State.setLaststatus_duty (s : State) (v : Byte) : (s.setLaststatus v).duty = s.duty := rfl
@[simp] theorem State.setLaststatus_voices (s : State) (v : Byte) : (s.setLaststatus v).voices = s.voices := rfl
@[simp] theorem State.setLaststatus_time (s : State) (v : Byte) : (s.setLaststatus v).time = s.time := rfl
@[simp] theorem State.setLaststatus_laststatus (s : State) (v : Byte) : (s.setLaststatus v).laststatus = v := rfl
@[simp] theorem State.setLaststatus_rdata (s : State) (v : Byte) : (s.setLaststatus v).rdata = s.rdata := rfl
@[simp] theorem State.setLaststatus_scanq (s : State) (v : Byte) : (s.setLaststatus v).scanq = s.scanq := rfl
@[simp] theorem State.setLaststatus_serout (s : State) (v : Byte) : (s.setLaststatus v).serout = s.serout := rfl
@[simp] theorem State.setLaststatus_env (s : State) (v : Byte) : (s.setLaststatus v).env = s.env := rfl

@[simp] theorem State.setRdata_cfg (s : State) (v : BitVec 16) : (s.setRdata v).cfg = s.cfg := rfl
@[simp] theorem State.setRdata_mode (s : State) (v : BitVec 16) : (s.setRdata v).mode = s.mode := rfl
@[simp] theorem State.setRdata_keycur (s : State) (v : BitVec 16) : (s.setRdata v).keycur = s.keycur := rfl
@[simp] theorem State.setRdata_keyprev (s : State) (v : BitVec 16) : (s.setRdata v).keyprev = s.keyprev := rfl
@[simp] theorem State.setRdata_setcur (s : State) (v : BitVec 16) : (s.setRdata v).setcur = s.setcur := rfl
@[simp] theorem State.setRdata_setprev (s : State) (v : BitVec 16) : (s.setRdata v).setprev = s.setprev := rfl
@[simp] theorem State.setRdata_potval0 (s : State) (v : BitVec 16) : (s.setRdata v).potval0 = s.potval0 := rfl
@[simp] theorem State.setRdata_potval1 (s : State) (v : BitVec 16) : (s.setRdata v).potval1 = s.potval1 := rfl
@[simp] theorem State.setRdata_potchg (s : State) (v : BitVec 16) : (s.setRdata v).potchg = s.potchg := rfl
@[simp] theorem State.setRdata_pitch0 (s : State) (v : BitVec 16) : (s.setRdata v).pitch0 = s.pitch0 := rfl
@[simp] theorem State.setRdata_cmderr (s : State) (v : BitVec 16) : (s.setRdata v).cmderr = s.cmderr := rfl
@[simp] theorem State.setRdata_errcause (s : State) (v : BitVec 16) : (s.setRdata v).errcause = s.errcause := rfl
@[simp] theorem State.setRdata_duty (s : State) (v : BitVec 16) : (s.setRdata v).duty = s.duty := rfl
@[simp] theorem State.setRdata_voices (s : State) (v : BitVec 16) : (s.setRdata v).voices = s.voices := rfl
@[simp] theorem State.setRdata_time (s : State) (v : BitVec 16) : (s.setRdata v).time = s.time := rfl
@[simp] theorem State.setRdata_laststatus (s : State) (v : BitVec 16) : (s.setRdata v).laststatus = s.laststatus := rfl
@[simp] theorem State.setRdata_rdata (s : State) (v : BitVec 16) : (s.setRdata v).rdata = v := rfl
@[simp] theorem State.setRdata_scanq (s : State) (v : BitVec 16) : (s.setRdata v).scanq = s.scanq := rfl
@[simp] theorem State.setRdata_serout (s : State) (v : BitVec 16) : (s.setRdata v).serout = s.serout := rfl
@[simp] theorem State.setRdata_env (s : State) (v : BitVec 16) : (s.setRdata v).env = s.env := rfl

@[simp] theorem State.setScanq_cfg (s : State) (v : List Word) : (s.setScanq v).cfg = s.cfg := rfl
@[simp] theorem State.setScanq_mode (s : State) (v : List Word) : (s.setScanq v).mode = s.mode := rfl
@[simp] theorem State.setScanq_keycur (s : State) (v : List Word) : (s.setScanq v).keycur = s.keycur := rfl
@[simp] theorem State.setScanq_keyprev (s : State) (v : List Word) : (s.setScanq v).keyprev = s.keyprev := rfl
@[simp] theorem State.setScanq_setcur (s : State) (v : List Word) : (s.setScanq v).setcur = s.setcur := rfl
@[simp] theorem State.setScanq_setprev (s : State) (v : List Word) : (s.setScanq v).setprev = s.setprev := rfl
@[simp] theorem State.setScanq_potval0 (s : State) (v : List Word) : (s.setScanq v).potval0 = s.potval0 := rfl
@[simp] theorem State.setScanq_potval1 (s : State) (v : List Word) : (s.setScanq v).potval1 = s.potval1 := rfl
@[simp] theorem State.setScanq_potchg (s : State) (v : List Word) : (s.setScanq v).potchg = s.potchg := rfl
@[simp] theorem State.setScanq_pitch0 (s : State) (v : List Word) : (s.setScanq v).pitch0 = s.pitch0 := rfl
@[simp] theorem State.setScanq_cmderr (s : State) (v : List Word) : (s.setScanq v).cmderr = s.cmderr := rfl
@[simp] theorem State.setScanq_errcause (s : State) (v : List Word) : (s.setScanq v).errcause = s.errcause := rfl
@[simp] theorem State.setScanq_duty (s : State) (v : List Word) : (s.setScanq v).duty = s.duty := rfl
@[simp] theorem State.setScanq_voices (s : State) (v : List Word) : (s.setScanq v).voices = s.voices := rfl
@[simp] theorem State.setScanq_time (s : State) (v : List Word) : (s.setScanq v).time = s.time := rfl
@[simp] theorem State.setScanq_laststatus (s : State) (v : List Word) : (s.setScanq v).laststatus = s.laststatus := rfl
@[simp] theorem State.setScanq_rdata (s : State) (v : List Word) : (s.setScanq v).rdata = s.rdata := rfl
@[simp] theorem State.setScanq_scanq (s : State) (v : List Word) : (s.setScanq v).scanq = v := rfl
@[simp] theorem State.setScanq_serout (s : State) (v : List Word) : (s.setScanq v).serout = s.serout := rfl
@[simp] theorem State.setScanq_env (s : State) (v : List Word) : (s.setScanq v).env = s.env := rfl

@[simp] theorem State.setSerout_cfg (s : State) (v : List Byte) : (s.setSerout v).cfg = s.cfg := rfl
@[simp] theorem State.setSerout_mode (s : State) (v : List Byte) : (s.setSerout v).mode = s.mode := rfl
@[simp] theorem State.setSerout_keycur (s : State) (v : List Byte) : (s.setSerout v).keycur = s.keycur := rfl
@[simp] theorem State.setSerout_keyprev (s : State) (v : List Byte) : (s.setSerout v).keyprev = s.keyprev := rfl
@[simp] theorem State.setSerout_setcur (s : State) (v : List Byte) : (s.setSerout v).setcur = s.setcur := rfl
@[simp] theorem State.setSerout_setprev (s : State) (v : List Byte) : (s.setSerout v).setprev = s.setprev := rfl
@[simp] theorem State.setSerout_potval0 (s : State) (v : List Byte) : (s.setSerout v).potval0 = s.potval0 := rfl
@[simp] theorem State.setSerout_potval1 (s : State) (v : List Byte) : (s.setSerout v).potval1 = s.potval1 := rfl
@[simp] theorem State.setSerout_potchg (s : State) (v : List Byte) : (s.setSerout v).potchg = s.potchg := rfl
@[simp] theorem State.setSerout_pitch0 (s : State) (v : List Byte) : (s.setSerout v).pitch0 = s.pitch0 := rfl
@[simp] theorem State.setSerout_cmderr (s : State) (v : List Byte) : (s.setSerout v).cmderr = s.cmderr := rfl
@[simp] theorem State.setSerout_errcause (s : State) (v : List Byte) : (s.setSerout v).errcause = s.errcause := rfl
@[simp] theorem State.setSerout_duty (s : State) (v : List Byte) : (s.setSerout v).duty = s.duty := rfl
@[simp] theorem State.setSerout_voices (s : State) (v : List Byte) : (s.setSerout v).voices = s.voices := rfl
@[simp] theorem State.setSerout_time (s : State) (v : List Byte) : (s.setSerout v).time = s.time := rfl
@[simp] theorem State.setSerout_laststatus (s : State) (v : List Byte) : (s.setSerout v).laststatus = s.laststatus := rfl
@[simp] theorem State.setSerout_rdata (s : State) (v : List Byte) : (s.setSerout v).rdata = s.rdata := rfl
@[simp] theorem State.setSerout_scanq (s : State) (v : List Byte) : (s.setSerout v).scanq = s.scanq := rfl
@[simp] theorem State.setSerout_serout (s : State) (v : List Byte) : (s.setSerout v).serout = v := rfl
@[simp] theorem State.setSerout_env (s : State) (v : List Byte) : (s.setSerout v).env = s.env := rfl

@[simp] theorem State.setEnv_cfg (s : State) (v : Env) : (s.setEnv v).cfg = s.cfg := rfl
@[simp] theorem State.setEnv_mode (s : State) (v : Env) : (s.setEnv v).mode = s.mode := rfl
@[simp] theorem State.setEnv_keycur (s : State) (v : Env) : (s.setEnv v).keycur = s.keycur := rfl
@[simp] theorem State.setEnv_keyprev (s : State) (v : Env) : (s.setEnv v).keyprev = s.keyprev := rfl
@[simp] theorem State.setEnv_setcur (s : State) (v : Env) : (s.setEnv v).setcur = s.setcur := rfl
@[simp] theorem State.setEnv_setprev (s : State) (v : Env) : (s.setEnv v).setprev = s.setprev := rfl
@[simp] theorem State.setEnv_potval0 (s : State) (v : Env) : (s.setEnv v).potval0 = s.potval0 := rfl
@[simp] theorem State.setEnv_potval1 (s : State) (v : Env) : (s.setEnv v).potval1 = s.potval1 := rfl
@[simp] theorem State.setEnv_potchg (s : State) (v : Env) : (s.setEnv v).potchg = s.potchg := rfl
@[simp] theorem State.setEnv_pitch0 (s : State) (v : Env) : (s.setEnv v).pitch0 = s.pitch0 := rfl
@[simp] theorem State.setEnv_cmderr (s : State) (v : Env) : (s.setEnv v).cmderr = s.cmderr := rfl
@[simp] theorem State.setEnv_errcause (s : State) (v : Env) : (s.setEnv v).errcause = s.errcause := rfl
@[simp] theorem State.setEnv_duty (s : State) (v : Env) : (s.setEnv v).duty = s.duty := rfl
@[simp] theorem State.setEnv_voices (s : State) (v : Env) : (s.setEnv v).voices = s.voices := rfl
@[simp] theorem State.setEnv_time (s : State) (v : Env) : (s.setEnv v).time = s.time := rfl
@[simp] theorem State.setEnv_laststatus (s : State) (v : Env) : (s.setEnv v).laststatus = s.laststatus := rfl
@[simp] theorem State.setEnv_rdata (s : State) (v : Env) : (s.setEnv v).rdata = s.rdata := rfl
@[simp] theorem State.setEnv_scanq (s : State) (v : Env) : (s.setEnv v).scanq = s.scanq := rfl
@[simp] theorem State.setEnv_serout (s : State) (v : Env) : (s.setEnv v).serout = s.serout := rfl
@[simp] theorem State.setEnv_env (s : State) (v : Env) : (s.setEnv v).env = v := rfl

end Sys2Proof.Machine
end

