-- ==== Sys2Proof/Laws/Ops.lean ====
section
/-! SUPPORT. Laws/Ops.lean: what each shared operation of Machine/Ops.lean, Flags.lean and Midi.lean can do, said once. -/

namespace Sys2Proof.Machine

@[simp] theorem State.setEnv_setEnv (s : State) (e e' : Env) : (s.setEnv e).setEnv e' = s.setEnv e' := rfl

@[simp] theorem State.setScanq_setScanq (s : State) (q q' : List Word) :
    (s.setScanq q).setScanq q' = s.setScanq q' := rfl

/-- An error is recorded once; otherwise nothing happens. -/
theorem raiseCmdError_cases (c : Cause) (s : State) :
    (s.cmderr = true ∧ raiseCmdError c s = s) ∨
    (s.cmderr = false ∧ raiseCmdError c s = (s.setCmderr true).setErrcause (causeCode c)) := by
  cases h : s.cmderr <;> simp [raiseCmdError, h]

/-- Whatever the cause, only CMDERR and ERRCAUSE can change. -/
theorem raiseCmdError_frame (c : Cause) (s : State) :
    raiseCmdError c s = (s.setCmderr (raiseCmdError c s).cmderr).setErrcause (raiseCmdError c s).errcause := by
  rcases raiseCmdError_cases c s with ⟨h, e⟩ | ⟨h, e⟩ <;> rw [e] <;> rfl

/-- Codes 0 and 5 to 7 are never recorded (R302). -/
theorem causeCode_range (c : Cause) : 1 ≤ (causeCode c).toNat ∧ (causeCode c).toNat ≤ 4 := by
  cases c <;> decide

@[simp] theorem emit_serout (b : Byte) (s : State) : (emit b s).serout = s.serout ++ [b] := rfl

/-- Sending a byte moves SEROUT and LASTSTATUS only. -/
theorem noteStatus_emit (b : Byte) (s : State) :
    noteStatus b (emit b s) =
      (s.setSerout (s.serout ++ [b])).setLaststatus (if b.getLsbD 7 then b else s.laststatus) := by
  unfold noteStatus emit
  split <;> rfl

theorem romPeriod_of_some {c : Config} {n : Nat} {p : BitVec 16} (h : c.period[n]? = some p) :
    romPeriod c n = p := by
  simp [romPeriod, h]

theorem modPos_of_pos (a : Nat) {b : Nat} (h : 0 < b) : modPos a b = a % b := by
  simp [modPos, Nat.pos_iff_ne_zero.mp h]

@[simp] theorem resetBlock_cfg (m : RunMode) (s : State) : (resetBlock m s).cfg = s.cfg := rfl
@[simp] theorem resetBlock_mode (m : RunMode) (s : State) : (resetBlock m s).mode = m := rfl
@[simp] theorem resetBlock_serout (m : RunMode) (s : State) : (resetBlock m s).serout = s.serout := rfl
@[simp] theorem resetBlock_env (m : RunMode) (s : State) : (resetBlock m s).env = s.env := rfl
@[simp] theorem resetBlock_scanq (m : RunMode) (s : State) : (resetBlock m s).scanq = [] := rfl
@[simp] theorem resetBlock_cmderr (m : RunMode) (s : State) : (resetBlock m s).cmderr = false := rfl
@[simp] theorem resetBlock_errcause (m : RunMode) (s : State) : (resetBlock m s).errcause = 0 := rfl

theorem busy_eq_false_iff (s : State) : s.busy = false ↔ s.scanq = [] := by
  simp [State.busy]

theorem busy_eq_true_iff (s : State) : s.busy = true ↔ s.scanq ≠ [] := by
  simp [State.busy, List.length_pos_iff]

end Sys2Proof.Machine
end

