-- ==== Sys2Proof/Laws/PerInstr.lean ====
section
/-! SUPPORT. Laws/PerInstr.lean: the per-instruction family OpcodeField: the op field of an operation's word is its code in
the opcode map (spec/30_encoding.md R93). -/

namespace Sys2Proof.Laws.OpcodeField

open Sys2Proof.Machine

/-- The op field of the encoding is the `op` column of R93, for any operands. -/
def Statement (i : Instr) : Prop := opField (encode i) = i.opcode

theorem keywr (g : Nat) (v : Byte) : Statement (.keywr g v) := opField_mkWord _ _ _
theorem setwr (v : Byte) : Statement (.setwr v) := opField_mkWord _ _ _
theorem potwr (c : Nat) (v : Byte) : Statement (.potwr c v) := opField_mkWord _ _ _
theorem scan : Statement .scan := opField_mkWord _ _ _
theorem tick : Statement .tick := opField_mkWord _ _ _
theorem rdreg (r : Nat) : Statement (.rdreg r) := opField_mkWord _ _ _
theorem von (n : Nat) : Statement (.von n) := opField_mkWord _ _ _
theorem voff (n : Nat) : Statement (.voff n) := opField_mkWord _ _ _
theorem pshift (d : Int) : Statement (.pshift d) := opField_mkWord _ _ _
theorem potclr : Statement .potclr := opField_mkWord _ _ _
theorem sertx (b : Byte) : Statement (.sertx b) := opField_mkWord _ _ _
theorem advance : Statement .advance := opField_mkWord _ _ _

end Sys2Proof.Laws.OpcodeField
end

