-- ==== Sys2Proof/Laws/Step.lean ====
section
/-! SUPPORT. Laws/Step.lean: the turn and the word a step takes are the environment's, and what a step can do, said once. -/

namespace Sys2Proof.Machine

/-- Taking a turn moves the environment's part only, and not its words. -/
theorem takeTurn_state (s : State) :
    ∃ e : Env, (takeTurn s).2 = s.setEnv e ∧ e.words = s.env.words ∧ e.freeWords = s.env.freeWords := by
  unfold takeTurn
  split
  · exact ⟨_, rfl, rfl, rfl⟩
  · exact ⟨_, rfl, rfl, rfl⟩

/-- Taking a host word moves the environment's part only. -/
theorem takeHostWord_state (s : State) : ∃ e : Env, (takeHostWord s).2 = s.setEnv e := by
  unfold takeHostWord
  split <;> exact ⟨_, rfl⟩

theorem takeTurn_listed {s : State} {t : Turn} {ts : List Turn} (h : s.env.turns = t :: ts) :
    takeTurn s = (t, s.setEnv { s.env with turns := ts }) := by
  simp [takeTurn, h]

theorem takeHostWord_listed {s : State} {w : Word} {ws : List Word} (h : s.env.words = w :: ws) :
    takeHostWord s = (w, s.setEnv { s.env with words := ws }) := by
  simp [takeHostWord, h]

theorem step_of_wellFormed {s : State} (h : s.cfg.wellFormed = true) : step s = runAction (fetch s).1 (fetch s).2 := by
  simp [step, blockStep, h, runTurn]

theorem step_of_illFormed {s : State} (h : s.cfg.wellFormed = false) : step s = .refused .illFormedConfig := by
  simp [step, blockStep, h]

/-- What a step that answers `next` did, up to the environment's part `e` of the state it acted on. -/
inductive StepDid (s t : State) : Prop where
  /-- A turn passed: a held host command or an empty queue. -/
  | passed (e : Env) (hw : e.words = s.env.words) (ht : t = s.setEnv e)
      (hr : ∀ m, (takeTurn s).1 ≠ .reset m)
  /-- The reset input. -/
  | reset (e : Env) (m : RunMode) (hr : (takeTurn s).1 = .reset m) (ht : t = resetBlock m (s.setEnv e))
  /-- A host word that was refused. -/
  | refusedWord (e : Env) (c : Cause) (hh : (takeTurn s).1 = .host) (hb : s.scanq = [])
      (ht : t = raiseCmdError c (s.setEnv e))
  /-- A host command, with an empty queue. -/
  | hostCommand (e : Env) (i : Instr) (hh : (takeTurn s).1 = .host) (hb : s.scanq = []) (hp : i.path = .host)
      (hx : exec i (s.setEnv e) = .next t)
  /-- A micro-operation, taken off the queue. -/
  | microOp (e : Env) (w : Word) (rest : List Word) (i : Instr) (hs : (takeTurn s).1 = .scan)
      (hw : e.words = s.env.words) (hq : s.scanq = w :: rest) (hd : decodeMicro w = some i)
      (hx : exec i ((s.setEnv e).setScanq rest) = .next t)
  /-- A sample tick. -/
  | tick (e : Env) (hs : (takeTurn s).1 = .timer) (hw : e.words = s.env.words) (hx : exec .tick (s.setEnv e) = .next t)

/-- One inversion for every step. -/
theorem step_did {s t : State} (h : step s = .next t) : s.cfg.wellFormed = true ∧ StepDid s t := by
  cases hc : s.cfg.wellFormed with
  | false => simp [step_of_illFormed hc] at h
  | true =>
    refine ⟨rfl, ?_⟩
    rw [step_of_wellFormed hc] at h
    obtain ⟨e, he, hw, -⟩ := takeTurn_state s
    cases ht : (takeTurn s).1 with
    | host =>
      have hp : takeTurn s = (.host, s.setEnv e) := Prod.ext ht he
      have hf : fetch s = fetchHost (s.setEnv e) := by simp [fetch, hp]
      rw [hf] at h
      by_cases hb : s.scanq = []
      · have hb' : (s.setEnv e).busy = false := (busy_eq_false_iff _).2 hb
        obtain ⟨e', he'⟩ := takeHostWord_state (s.setEnv e)
        unfold fetchHost at h
        simp only [hb', Bool.false_eq_true, if_false] at h
        cases hdec : decodeHost (takeHostWord (s.setEnv e)).1 with
        | ok i =>
          rw [hdec, he'] at h
          exact .hostCommand e' i ht hb (decodeHost_path hdec) h
        | error c =>
          rw [hdec, he'] at h
          exact .refusedWord e' c ht hb (by simpa [runAction] using h.symm)
      · have hb' : (s.setEnv e).busy = true := (busy_eq_true_iff _).2 hb
        unfold fetchHost at h
        simp only [hb', if_true, runAction, Host.Outcome.next.injEq] at h
        exact .passed e hw h.symm (by simp [ht])
    | scan =>
      have hp : takeTurn s = (.scan, s.setEnv e) := Prod.ext ht he
      have hf : fetch s = fetchScan (s.setEnv e) := by simp [fetch, hp]
      rw [hf] at h
      cases hq : s.scanq with
      | nil =>
        simp only [fetchScan, State.setEnv_scanq, hq, runAction, Host.Outcome.next.injEq] at h
        exact .passed e hw h.symm (by simp [ht])
      | cons w rest =>
        simp only [fetchScan, State.setEnv_scanq, hq] at h
        cases hdec : decodeMicro w with
        | none => simp [hdec, runAction] at h
        | some i =>
          rw [hdec] at h
          exact .microOp e w rest i ht hw hq hdec h
    | timer =>
      have hp : takeTurn s = (.timer, s.setEnv e) := Prod.ext ht he
      have hf : fetch s = fetchTimer (s.setEnv e) := by simp [fetch, hp]
      rw [hf] at h
      exact .tick e ht hw h
    | reset m =>
      have hp : takeTurn s = (.reset m, s.setEnv e) := Prod.ext ht he
      have hf : fetch s = (.reset m, s.setEnv e) := by simp [fetch, hp]
      rw [hf] at h
      exact .reset e m ht (by simpa [runAction] using h.symm)

end Sys2Proof.Machine
end

