-- ==== Sys2Proof/Laws/Voices.lean ====
section
/-! SUPPORT. Laws/Voices.lean: everything the voice-table operations can do, said once. -/

namespace Sys2Proof.Machine

theorem soundsNote_iff (n : Nat) (v : Voice) : soundsNote n v = true ↔ v.valid = true ∧ v.note.toNat = n := by
  simp [soundsNote]

/-- What creating a voice can do to the table: nothing, because the note sounds or no slot is free, or the lowest free slot
takes the new voice. -/
theorem voicesOn_cases (c : Config) (t : BitVec 32) (n : Nat) (vs : List Voice) :
    ((∃ v ∈ vs, v.valid = true ∧ v.note.toNat = n) ∧ voicesOn c t n vs = vs) ∨
    ((∀ v ∈ vs, v.valid = true → v.note.toNat ≠ n) ∧ (∀ v ∈ vs, v.valid = true) ∧ voicesOn c t n vs = vs) ∨
    ((∀ v ∈ vs, v.valid = true → v.note.toNat ≠ n) ∧ ∃ i u, vs[i]? = some u ∧ u.valid = false ∧
      (∀ j v, j < i → vs[j]? = some v → v.valid = true) ∧ voicesOn c t n vs = vs.set i (newVoice c t n)) := by
  unfold voicesOn
  by_cases hs : vs.any (soundsNote n) = true
  · left
    simp only [hs, if_true, and_true]
    obtain ⟨v, hv, hn⟩ := List.any_eq_true.mp hs
    exact ⟨v, hv, (soundsNote_iff n v).mp hn⟩
  · right
    have hno : ∀ v ∈ vs, v.valid = true → v.note.toNat ≠ n := fun v hv hval hn =>
      hs (List.any_eq_true.mpr ⟨v, hv, (soundsNote_iff n v).mpr ⟨hval, hn⟩⟩)
    simp only [hs, if_false, Bool.false_eq_true]
    cases hf : vs.findIdx? (fun v => !v.valid) with
    | none =>
      left
      refine ⟨hno, fun v hv => ?_, rfl⟩
      have := List.findIdx?_eq_none_iff.mp hf v hv
      simpa using this
    | some i =>
      right
      obtain ⟨hlt, hval, hbefore⟩ := List.findIdx?_eq_some_iff_getElem.mp hf
      refine ⟨hno, i, vs[i], List.getElem?_eq_getElem hlt, by simpa using hval, fun j v hj hv => ?_, rfl⟩
      have hb := hbefore j hj
      have hjl : j < vs.length := Nat.lt_trans hj hlt
      rw [List.getElem?_eq_getElem hjl, Option.some.injEq] at hv
      rw [hv] at hb
      simpa using hb

/-- What destroying a voice can do to the table: nothing, because the note does not sound, or the lowest slot that sounds it
becomes Idle. -/
theorem voicesOff_cases (n : Nat) (vs : List Voice) :
    ((∀ v ∈ vs, v.valid = true → v.note.toNat ≠ n) ∧ voicesOff n vs = vs) ∨
    (∃ i u, vs[i]? = some u ∧ u.valid = true ∧ u.note.toNat = n ∧ voicesOff n vs = vs.set i Voice.idle) := by
  unfold voicesOff
  cases hf : vs.findIdx? (soundsNote n) with
  | none =>
    left
    refine ⟨fun v hv hval hn => ?_, rfl⟩
    have := List.findIdx?_eq_none_iff.mp hf v hv
    rw [(soundsNote_iff n v).mpr ⟨hval, hn⟩] at this
    exact Bool.noConfusion this
  | some i =>
    right
    obtain ⟨hlt, hs, -⟩ := List.findIdx?_eq_some_iff_getElem.mp hf
    obtain ⟨hval, hn⟩ := (soundsNote_iff n _).mp hs
    exact ⟨i, vs[i], List.getElem?_eq_getElem hlt, hval, hn, rfl⟩

@[simp] theorem voicesOn_length (c : Config) (t : BitVec 32) (n : Nat) (vs : List Voice) :
    (voicesOn c t n vs).length = vs.length := by
  rcases voicesOn_cases c t n vs with ⟨-, h⟩ | ⟨-, -, h⟩ | ⟨-, i, u, -, -, -, h⟩ <;> simp [h]

@[simp] theorem voicesOff_length (n : Nat) (vs : List Voice) : (voicesOff n vs).length = vs.length := by
  rcases voicesOff_cases n vs with ⟨-, h⟩ | ⟨i, u, -, -, -, h⟩ <;> simp [h]

@[simp] theorem stepPhase_valid (v : Voice) : (stepPhase v).valid = v.valid := by
  unfold stepPhase; split <;> rfl

@[simp] theorem stepPhase_note (v : Voice) : (stepPhase v).note = v.note := by
  unfold stepPhase; split <;> rfl

@[simp] theorem stepPhase_period (v : Voice) : (stepPhase v).period = v.period := by
  unfold stepPhase; split <;> rfl

@[simp] theorem stepPhase_idle : stepPhase Voice.idle = Voice.idle := rfl

theorem stepPhase_of_idle {v : Voice} (h : v.valid = false) : stepPhase v = v := by
  simp [stepPhase, h]

/-- The phase of a valid slot after one tick. -/
theorem stepPhase_phase {v : Voice} (h : v.valid = true) (hp : 0 < v.period.toNat) :
    (stepPhase v).phase.toNat = (v.phase.toNat + 1) % v.period.toNat := by
  have hlt := Nat.mod_lt (v.phase.toNat + 1) hp
  have := v.period.isLt
  simp only [stepPhase, h, if_true, modPos, Nat.pos_iff_ne_zero.mp hp, if_false, BitVec.toNat_ofNat]
  omega

@[simp] theorem newVoice_valid (c : Config) (t : BitVec 32) (n : Nat) : (newVoice c t n).valid = true := rfl

theorem newVoice_note (c : Config) (t : BitVec 32) {n : Nat} (h : n < 256) : (newVoice c t n).note.toNat = n := by
  simp only [newVoice, BitVec.toNat_ofNat]
  omega

/-- The period and phase of a voice whose note index the ROM holds. -/
theorem newVoice_period_phase {c : Config} {t : BitVec 32} {n : Nat} {p : BitVec 16} (h : c.period[n]? = some p)
    (hp : 0 < p.toNat) :
    (newVoice c t n).period = p ∧ (newVoice c t n).phase.toNat = t.toNat % p.toNat := by
  have hlt := Nat.mod_lt t.toNat hp
  have := p.isLt
  simp only [newVoice, romPeriod, h, modPos, Nat.pos_iff_ne_zero.mp hp, if_false, BitVec.toNat_ofNat, true_and]
  omega

end Sys2Proof.Machine
end

