-- ==== Sys2Proof/Machine/Observe.lean ====
section
/-! DEFINITION. Machine/Observe.lean: the observation of a run (spec/70_reset_and_hazards.md R373). -/

namespace Sys2Proof.Machine

/-- What a finite prefix of a run shows: the DUTY values written by successive TICKs, the RDATA values returned to RDREGs,
and the state reached, whose SEROUT is the byte stream (R373, R50). -/
structure Observation where
  duties : List (BitVec 16)
  rdatas : List (BitVec 16)
  reached : State
deriving DecidableEq, Repr

/-- The DUTY value that the step from `s` to `t` writes: only a TICK in Synth mode writes one (R43, R201). -/
def dutyWritten (s t : State) : List (BitVec 16) :=
  match (fetch s).1, s.mode with
  | .run .tick, .synth => [t.duty]
  | _, _ => []

/-- The RDATA value that the step from `s` to `t` returns: an RDREG of an assigned register returns one (R132). -/
def rdataReturned (s t : State) : List (BitVec 16) :=
  match (fetch s).1 with
  | .run (.rdreg r) => if (regOf s.cfg r).isSome then [t.rdata] else []
  | _ => []

/-- The observation of at most `k` steps from `s`, up to the first fault or refusal (R373). -/
def observe : Nat → State → Observation
  | 0, s => ⟨[], [], s⟩
  | k + 1, s =>
    match step s with
    | .next t =>
      let o := observe k t
      ⟨dutyWritten s t ++ o.duties, rdataReturned s t ++ o.rdatas, o.reached⟩
    | .fault _ => ⟨[], [], s⟩
    | .refused _ => ⟨[], [], s⟩

end Sys2Proof.Machine
end

