-- ==== Sys2Proof/Tests/Slice0.lean ====
section
/-! SUPPORT. Tests/Slice0.lean: words written out from R94, ill-formed terms the checks refuse, at most two one-step tests an
instruction with results from spec/95_test_vectors.md, and for every statement a state that meets its hypotheses. -/

namespace Sys2Proof.Tests

open Sys2Proof Sys2Proof.Machine

/-! ### Decoding: each word written bit by bit from R94 -/

theorem test_decode_keywr : decode 0b0001000111000101#16 = .ok (.keywr 1 0xC5) := by decide
theorem test_decode_setwr : decode 0b0010000011110010#16 = .ok (.setwr 0xF2) := by decide
theorem test_decode_potwr : decode 0b0011000101010101#16 = .ok (.potwr 1 0x55) := by decide
theorem test_decode_scan : decode 0b0100000000000000#16 = .ok .scan := by decide
theorem test_decode_tick : decode 0b0101000000000000#16 = .ok .tick := by decide
theorem test_decode_rdreg : decode 0b0110000000010101#16 = .ok (.rdreg 0x15) := by decide
theorem test_decode_von : decode 0b1000000000100100#16 = .ok (.von 36) := by decide
theorem test_decode_voff : decode 0b1001000000100110#16 = .ok (.voff 38) := by decide
theorem test_decode_pshift : decode 0b1010000011110100#16 = .ok (.pshift (-12)) := by decide
theorem test_decode_potclr : decode 0b1011000000000000#16 = .ok .potclr := by decide
theorem test_decode_sertx : decode 0b1100000001100000#16 = .ok (.sertx 0x60) := by decide
theorem test_decode_advance : decode 0b1101000000000000#16 = .ok .advance := by decide

/-- E1 to E4, E5 to E7 and E8 to E11 of section 2.2: the causes that do not depend on the configuration. -/
theorem test_decodeHost_refuses :
    [0x0000, 0x7100, 0xE0FF, 0xF000].all (fun w => decide (decodeHost w = .error .reservedOpcode)) = true ∧
    [0x5000, 0x8024, 0xD000].all (fun w => decide (decodeHost w = .error .wrongPort)) = true ∧
    [0x2100, 0x4001, 0x4100, 0x6100].all (fun w => decide (decodeHost w = .error .reservedField)) = true := by
  decide

theorem test_decodeTableWord : decodeTableWord 16 0xA00C = some (.pshift 12) := by decide

/-! ### Ill-formed terms are refused -/

theorem test_illformed_operands :
    [Instr.keywr 16 0, .potwr 16 0, .rdreg 256, .von 256, .voff 256, .pshift 128, .pshift (-129)].all
      (fun i => !i.wellFormed) = true := by decide

theorem test_not_generated :
    [Instr.von 60, .voff 60, .sertx 0, .pshift 2, .keywr 0 0, .setwr 0, .potwr 0 0, .scan, .tick, .rdreg 0].all
      (fun i => !i.generated Config.cfgT .synth) = true ∧
    [Instr.von 0, .voff 0].all (fun i => !i.generated Config.cfgT .midi) = true := by decide

theorem test_cfgT_wellFormed : Config.cfgT.wellFormed = true := by decide

/-- One configuration for each constraint of R5 to R18 that breaks it. -/
theorem test_illformed_configurations :
    [ { Config.cfgT with keysNumber := 6 }, { Config.cfgT with keysNumber := 54 }, { Config.cfgT with keysNumber := 13 },
      { Config.cfgT with noteNumber := 11, pitch0Reset := 0, period := List.replicate 11 2 },
      { Config.cfgT with noteNumber := 129, period := List.replicate 129 2 },
      { Config.cfgT with pitch0Reset := 49 }, { Config.cfgT with midiC0 := 128 }, { Config.cfgT with midiChannel := 16 },
      { Config.cfgT with timerReload := 0, ampQ := 0 }, { Config.cfgT with timerReload := 65536, ampQ := 65536 },
      { Config.cfgT with ampQ := 0 }, { Config.cfgT with ampQ := 256 }, { Config.cfgT with ampQ := 1 },
      { Config.cfgT with baseline := 256 },
      { Config.cfgT with period := List.replicate 59 2 }, { Config.cfgT with period := List.replicate 60 1 } ].all
      (fun c => !c.wellFormed) = true := by decide

/-! ### One step of each operation, with the results of spec/95_test_vectors.md -/

/-- The outcome is a next state with the given property. -/
def nextWith (o : Host.Outcome State Fault Refusal) (p : State → Bool) : Bool :=
  match o with
  | .next t => p t
  | .fault _ => false
  | .refused _ => false

/-- The reset state in MIDI mode. -/
def midi : State := State.resetWith Config.cfgT .midi

/-- The reset state with one voice: note 38, period 4, at the given phase. -/
def sounding (phase : BitVec 16) : State :=
  { State.reset with voices := [⟨true, 38, 4, phase⟩, Voice.idle, Voice.idle] }

/-- `s` with the given turn listed, and the given host words. -/
def listed (s : State) (t : Turn) (ws : List Word) : State := { s with env := ⟨[t], 0, ws, 0⟩ }

/-- H1: bits [7:6] are dropped. -/
theorem test_keywr : nextWith (step (State.reset.withFetchWord 16 0x10C5)) (fun t => t.keycur = [0x05, 0x00]) = true := by
  decide

/-- E12: g = 2 is not below G. -/
theorem test_keywr_range :
    nextWith (step (State.reset.withFetchWord 16 0x1200)) (fun t => t.cmderr && t.errcause == 3 && t.keycur == [0, 0]) =
      true := by decide

/-- H3. -/
theorem test_setwr : nextWith (step (State.reset.withFetchWord 16 0x20F2)) (fun t => t.setcur = 0xF2) = true := by decide

/-- H5. -/
theorem test_potwr :
    nextWith (step ((State.reset.setPotchg 1).withFetchWord 16 0x3155)) (fun t => t.potval1 == 0x55 && t.potchg == 3) =
      true := by decide

/-- H6: a disabled channel. -/
theorem test_potwr_disabled :
    nextWith (exec (.potwr 1 0x55) { State.reset with cfg := { Config.cfgT with tremoloEn := false } })
      (fun t => t.potval1 == 0 && t.potchg == 0 && !t.cmderr) = true := by decide

/-- T6. -/
theorem test_scan_synth :
    nextWith (step ({ State.reset with keycur := [0x24, 0], keyprev := [0x01, 0] }.withFetchWord 16 0x4000))
      (fun t => t.scanq = [0x9024, 0x8026, 0x8029, 0xB000, 0xD000]) = true := by decide

/-- M2 and the cycle's tail. -/
theorem test_scan_midi :
    nextWith (step ({ midi with keycur := [0x24, 0], keyprev := [0x01, 0] }.withFetchWord 16 0x4000))
      (fun t => t.scanq =
        [0xC090, 0xC062, 0xC040, 0xC065, 0xC040, 0xC060, 0xC000, 0xB000, 0xD000]) = true := by decide

/-- Y10: the sum is clamped. -/
theorem test_tick_clamps :
    nextWith (step ({ State.reset with voices := [⟨true, 36, 2, 0⟩, ⟨true, 37, 3, 0⟩, ⟨true, 38, 4, 0⟩] }.withFetchWord 16
      0x5000)) (fun t => t.duty == 255 && t.voices.map (fun v => v.phase) == [1, 1, 1]) = true := by decide

/-- Y14: Sawtooth, and the phase wraps. -/
theorem test_tick_sawtooth :
    nextWith (exec .tick { State.reset with
        cfg := { Config.cfgT with waveShape := .sawtooth }
        voices := [⟨true, 39, 5, 4⟩, Voice.idle, Voice.idle] })
      (fun t => t.duty == 178 && t.voices.map (fun v => v.phase) == [0, 0, 0]) = true := by decide

/-- H12. -/
theorem test_rdreg_voice :
    nextWith (step ((sounding 3).withFetchWord 16 0x6020)) (fun t => t.rdata = 0x8026) = true := by decide

/-- H11: STATUS in MIDI mode. -/
theorem test_rdreg_status : nextWith (step (midi.withFetchWord 16 0x6016)) (fun t => t.rdata = 0x0001) = true := by decide

/-- Y2: 5 mod 4. -/
theorem test_von :
    nextWith (step ((State.reset.setTime 5).withFetchWord 16 0x8026))
      (fun t => t.voices = [⟨true, 38, 4, 1⟩, Voice.idle, Voice.idle]) = true := by decide

/-- Y4: a full table. -/
theorem test_von_full :
    nextWith (exec (.von 39) { State.reset with voices := [⟨true, 36, 2, 0⟩, ⟨true, 37, 3, 0⟩, ⟨true, 38, 4, 0⟩] })
      (fun t => t.voices == [⟨true, 36, 2, 0⟩, ⟨true, 37, 3, 0⟩, ⟨true, 38, 4, 0⟩] && !t.cmderr) = true := by decide

/-- Y6. -/
theorem test_voff :
    nextWith (step ((sounding 3).withFetchWord 16 0x9026)) (fun t => t.voices = List.replicate 3 Voice.idle) = true := by
  decide

/-- Y7. -/
theorem test_voff_unmatched :
    nextWith (exec (.voff 40) (sounding 3)) (fun t => t.voices = (sounding 3).voices) = true := by decide

/-- T9p: clamped at 0, not wrapped. -/
theorem test_pshift_low :
    nextWith (step ((State.reset.setPitch0 5).withFetchWord 16 0xA0F4)) (fun t => t.pitch0 = 0) = true := by decide

/-- T11p: clamped at MAX_PITCH_0. -/
theorem test_pshift_high :
    nextWith (step ((State.reset.setPitch0 47).withFetchWord 16 0xA00C)) (fun t => t.pitch0 = 48) = true := by decide

/-- T16. -/
theorem test_potclr :
    nextWith (step ((State.reset.setPotchg 3).withFetchWord 16 0xB000)) (fun t => t.potchg = 0) = true := by decide

/-- M12, the status byte. -/
theorem test_sertx_status :
    nextWith (step (midi.withFetchWord 16 0xC090)) (fun t => t.serout == [0x90] && t.laststatus == 0x90) = true := by decide

/-- M12, a data byte. -/
theorem test_sertx_data :
    nextWith (exec (.sertx 0x60) { midi with serout := [0x90], laststatus := 0x90 })
      (fun t => t.serout == [0x90, 0x60] && t.laststatus == 0x90) = true := by decide

/-- T17. -/
theorem test_advance :
    nextWith (step ({ State.reset with keycur := [0x05, 0x10], setcur := 0x08 }.withFetchWord 16 0xD000))
      (fun t => t.keyprev == [0x05, 0x10] && t.setprev == 0x08 && t.scanq == []) = true := by decide

/-- H17: a host command is held while BUSY. -/
theorem test_held :
    nextWith (step (listed { State.reset with scanq := [0xB000, 0xD000] } .host [0x1001]))
      (fun t => t.keycur == [0, 0] && t.scanq == [0xB000, 0xD000] && t.env.words == [0x1001]) = true := by decide

/-- R373: a TICK in Synth mode shows its DUTY value. -/
theorem test_observe : (observe 1 (listed (sounding 0) .timer [])).duties = [191] := by decide

/-- R101. -/
theorem test_asm : (Instr.pshift (-12)).asm = "PSHIFT -12" := by decide

/-! ### States that meet the statements' hypotheses -/

/-- A good Synth state: one voice sounds in step with T, key 2 is down. -/
def goodSynth : State :=
  { sounding 1 with keycur := [0x04, 0x00], keyprev := [0x04, 0x00], time := 5, duty := 191 }

/-- A good busy Synth state. -/
def goodBusy : State := { goodSynth with scanq := [0x9026, 0xB000, 0xD000] }

/-- A good MIDI state with a status byte sent and a changed reading. -/
def goodMidi : State :=
  { midi with serout := [0x90, 0x60, 0x40], laststatus := 0x90, potval0 := 0x80, potchg := 1 }

/-- A state whose parts are checked one by one is good. -/
theorem good_of_checks {s : State} (h1 : s.cfg.wellFormed = true)
    (h2 : s.keycur.length = s.cfg.groups ∧ s.keycur.all (fun b => decide (b.toNat < 64)) = true)
    (h3 : s.keyprev.length = s.cfg.groups ∧ s.keyprev.all (fun b => decide (b.toNat < 64)) = true)
    (h4 : s.pitch0.toNat ≤ s.cfg.maxPitch0)
    (h5 : ErrorOk s) (h6 : PotsOk s) (h7 : s.duty.toNat ≤ s.cfg.pwmTop)
    (h8 : s.voices.length = s.cfg.maxVoices ∧ (∀ v ∈ s.voices, Voice.ok s.cfg v) ∧ (soundingNotes s.voices).Nodup)
    (h9 : s.laststatus = 0 ∨ s.laststatus.getLsbD 7 = true)
    (h10 : s.scanq.all (fun w => (decodeMicro w).any (fun i => i.generated s.cfg s.mode)) = true ∧
      (s.scanq = [] ∨ (s.scanq.getLast? = some (encode .advance) ∧ s.scanq.count (encode .advance) = 1)) ∧
      s.scanq.length ≤ scanqBound s.cfg s.mode)
    (h11 : OtherBackendIdle s) : s.Inv :=
  ⟨h1, ⟨h2.1, by simpa using h2.2⟩, ⟨h3.1, by simpa using h3.2⟩, h4, h5, h6, h7, ⟨h8.1, h8.2.1, h8.2.2⟩, h9,
    ⟨List.all_eq_true.mp h10.1, h10.2.1, h10.2.2⟩, h11⟩

theorem goodBusy_inv : goodBusy.Inv :=
  good_of_checks (by decide) (by decide) (by decide) (by decide) (by unfold ErrorOk; decide) (by unfold PotsOk; decide)
    (by decide) (by unfold Voice.ok; decide) (by decide) ⟨by decide, by decide, by decide⟩ (by unfold OtherBackendIdle; decide)

theorem goodSynth_inv : goodSynth.Inv :=
  good_of_checks (by decide) (by decide) (by decide) (by decide) (by unfold ErrorOk; decide) (by unfold PotsOk; decide)
    (by decide) (by unfold Voice.ok; decide) (by decide) ⟨by decide, by decide, by decide⟩ (by unfold OtherBackendIdle; decide)

theorem goodMidi_inv : goodMidi.Inv :=
  good_of_checks (by decide) (by decide) (by decide) (by decide) (by unfold ErrorOk; decide) (by unfold PotsOk; decide)
    (by decide) (by unfold Voice.ok; decide) (by decide) ⟨by decide, by decide, by decide⟩ (by unfold OtherBackendIdle; decide)

/-- A good Synth state whose highest key has just been pressed, at the highest pitch. -/
def goodEdge : State := { goodSynth with keycur := [0x04, 0x20], pitch0 := 48 }

theorem goodEdge_inv : goodEdge.Inv :=
  good_of_checks (by decide) (by decide) (by decide) (by decide) (by unfold ErrorOk; decide) (by unfold PotsOk; decide)
    (by decide) (by unfold Voice.ok; decide) (by decide) ⟨by decide, by decide, by decide⟩ (by unfold OtherBackendIdle; decide)

/-- A listed turn that is no reset makes the next step no reset. -/
theorem not_reset_of_listed {s : State} {u : Turn} {ts : List Turn} (h : s.env.turns = u :: ts) (hu : ∀ m, u ≠ .reset m) :
    ¬ ResetIsNext s := by
  rintro ⟨m, hm⟩
  simp only [takeTurn, h] at hm
  exact hu m hm

theorem witness_DecodingAnEncodingGivesTheOperation :
    [Instr.keywr 15 0xFF, .potwr 15 0, .rdreg 255, .von 255, .voff 255, .pshift (-128), .pshift 127, .scan].all
      Instr.wellFormed = true := by decide

theorem witness_EncodingADecodingGivesTheWord : decode 0xA080 = .ok (.pshift (-128)) := by decide

/-- One word for each clause, at the ends of its ranges. -/
theorem witness_HostWordIsCheckedInOrderThenExecuted :
    (let s := listed State.reset .host [0x0000]
     s.cfg.wellFormed = true ∧ s.env.turns = [.host] ∧ s.env.words = [0x0000] ∧ s.scanq = []) ∧
    [0x0FFF, 0x7000, 0xE000, 0xFFFF].all (fun w : Nat => w / 4096 ∈ [0x0, 0x7, 0xE, 0xF]) = true ∧
    [0x5000, 0x8000, 0xDFFF].all (fun w : Nat => w / 4096 = 5 ∨ (8 ≤ w / 4096 ∧ w / 4096 ≤ 13)) = true ∧
    (Config.cfgT.groups ≤ 0x1200 / 256 % 16 ∧ 0x11FF / 256 % 16 < Config.cfgT.groups) ∧
    (0x2100 / 256 % 16 ≠ 0 ∧ 0x20FF / 256 % 16 = 0) ∧ (2 ≤ 0x3200 / 256 % 16 ∧ 0x31FF / 256 % 16 < 2) ∧
    (0x4001 % 4096 ≠ 0 ∧ 0x4000 % 4096 = 0) ∧
    (0x6100 / 256 % 16 ≠ 0 ∧ regOf Config.cfgT (0x601C % 256) = none ∧ regOf Config.cfgT (0x601B % 256) ≠ none) := by
  decide

theorem witness_StepRunsTheDecodedInstruction :
    (let s := listed State.reset .host [0x10C5]
     s.cfg.wellFormed = true ∧ s.env.turns = [.host] ∧ s.env.words = [0x10C5] ∧ s.scanq = [] ∧
       decodeHost 0x10C5 = .ok (.keywr 0 0xC5)) ∧
    (let s := listed goodBusy .scan []
     s.cfg.wellFormed = true ∧ s.env.turns = [.scan] ∧ s.scanq = [0x9026, 0xB000, 0xD000] ∧
       decodeMicro 0x9026 = some (.voff 38)) ∧
    (listed State.reset .timer []).env.turns = [.timer] := by decide

theorem witness_ScanAgentTakesTheHeadAndTickMayComeBetween :
    (let s := listed goodBusy .scan []
     s.cfg.wellFormed = true ∧ s.env.turns = [.scan] ∧ s.scanq = [0x9026, 0xB000, 0xD000] ∧
       decode 0x9026 = .ok (.voff 38) ∧ 8 ≤ (0x9026 : Word).toNat / 4096 ∧ (0x9026 : Word).toNat / 4096 ≤ 13) ∧
    (let s := listed State.reset .scan []
     s.env.turns = [.scan] ∧ s.scanq = []) ∧
    (let s := listed goodBusy .host []
     s.env.turns = [.host] ∧ s.scanq ≠ []) ∧
    (listed goodBusy .timer []).env.turns = [.timer] := by decide

theorem witness_UnlistedTurnActsAsAListedOne : State.reset.env.turns = [] := by decide

theorem witness_HoldIsLiftedByTheCyclesAdvance : goodBusy.Inv ∧ goodBusy.scanq ≠ [] := ⟨goodBusy_inv, by decide⟩

theorem witness_KeywrStoresTheSixKeyBits :
    (1 < State.reset.cfg.groups ∧ 1 < State.reset.keycur.length) ∧
    State.reset.keycur[1]? = some (0xC0 &&& 0x3F) ∧ State.reset.cfg.groups ≤ 2 := by decide

theorem witness_SetwrStoresTheSettingsByte :
    (1#4 ≠ 0) ∧ (∀ b, (0x00 : Byte).getLsbD b = true → (0x0F : Byte).getLsbD b = true) :=
  ⟨by decide, fun b h => by simp at h⟩

theorem witness_PotwrTakesTheReadingOfAnEnabledChannel :
    State.reset.cfg.vibratoEn = true ∧ State.reset.cfg.tremoloEn = true ∧
    ({ State.reset with cfg := { Config.cfgT with vibratoEn := false } } : State).cfg.vibratoEn = false ∧ 2 ≤ 2 := by
  decide

/-- A state that differs from reset in RDATA only, which the rule does not name. -/
theorem witness_ScanLoadsTheCyclesList :
    let s := State.reset
    let s' := State.reset.setRdata 1
    s' ≠ s ∧ s'.cfg = s.cfg ∧ s'.mode = s.mode ∧ s'.keycur = s.keycur ∧ s'.keyprev = s.keyprev ∧ s'.setcur = s.setcur ∧
      s'.setprev = s.setprev ∧ s'.potval0 = s.potval0 ∧ s'.potval1 = s.potval1 ∧ s'.potchg = s.potchg ∧
      s'.pitch0 = s.pitch0 ∧ s'.laststatus = s.laststatus := by decide

/-- The hypotheses, and a number at each end of every unassigned range, next to the assigned ones. -/
theorem witness_RdregReadsTheNumberedRegister :
    let s := goodSynth
    (s.voices.length = s.cfg.maxVoices ∧ s.cfg.maxVoices ≤ 32 ∧ s.cfg.groups ≤ 8) ∧
    (1 < s.cfg.groups ∧ s.keycur[1]? = some 0x00 ∧ s.keyprev[0]? = some 0x04 ∧ s.voices[0]? = some ⟨true, 38, 4, 1⟩ ∧
      s.voices[2]? = some Voice.idle) ∧
    (s.cfg.groups ≤ 0x02 ∧ 0x08 + s.cfg.groups ≤ 0x0A ∧ 0x20 + s.cfg.maxVoices ≤ 0x23 ∧
      0x40 + s.cfg.maxVoices ≤ 0x43 ∧ 0x60 + s.cfg.maxVoices ≤ 0x63) ∧
    [0x01, 0x09, 0x1B, 0x22, 0x42, 0x62].all (fun r => (regOf s.cfg r).isSome) = true ∧
    [0x02, 0x07, 0x0A, 0x0F, 0x1C, 0x1F, 0x23, 0x3F, 0x43, 0x5F, 0x63, 0x7F, 0x80, 0xFF].all
      (fun r => (regOf s.cfg r).isNone) = true := by decide

theorem witness_CommandErrorIsStickyUntilReset :
    (∃ t, step (listed (raiseCmdError .indexRange State.reset) .timer []) = .next t ∧
      (raiseCmdError .indexRange State.reset).cmderr = true) ∧
    ¬ ResetIsNext (listed (raiseCmdError .indexRange State.reset) .timer []) ∧
    (∃ t, step (listed State.reset .host [0x1200]) = .next t ∧ t.cmderr = true) ∧
    ResetIsNext (listed State.reset (.reset .midi) []) ∧ (∃ t, step (listed State.reset (.reset .midi) []) = .next t) :=
  ⟨⟨_, rfl, rfl⟩, not_reset_of_listed rfl (by simp), ⟨_, rfl, rfl⟩, ⟨.midi, rfl⟩, ⟨_, rfl⟩⟩

theorem witness_KeyEventsAreAsManyAsChangedBits :
    Config.cfgT.wellFormed = true ∧ (State.reset.setRdata 1).keycur = State.reset.keycur := by decide

theorem witness_NoteIndexStaysInRange :
    goodEdge.Inv ∧ (KeyKind.press, 11) ∈ keyEvents goodEdge.cfg goodEdge.keycur goodEdge.keyprev :=
  ⟨goodEdge_inv, by decide⟩

theorem witness_CycleListHasItsFourPartsInOrder : State.reset.mode = .synth ∧ midi.mode = .midi := by decide

theorem witness_PshiftClampsPitch0 : State.reset.cfg.maxPitch0 < 256 := by decide

theorem witness_Pitch0MovesOnlyByPshiftWithinItsRange :
    (∃ t, exec (.pshift 1) State.reset = .next t ∧ t.pitch0 ≠ State.reset.pitch0) ∧
    Config.cfgT.wellFormed = true ∧ (48 : BitVec 8).toNat ≤ Config.cfgT.maxPitch0 :=
  ⟨⟨_, rfl, by decide⟩, by decide, by decide⟩

theorem witness_AdvanceCopiesTheSnapshots :
    let s := listed { State.reset with scanq := [0xD000] } .scan []
    s.cfg.wellFormed = true ∧ s.env.turns = [.scan] ∧ s.scanq = [0xD000] := by decide

theorem goodBusyScan_inv : (listed goodBusy .scan []).Inv :=
  let h := goodBusy_inv
  ⟨h.cfg, h.keycur, h.keyprev, h.pitch0, h.errors, h.pots, h.duty, h.voices, h.laststatus, h.scanq, h.otherBackend⟩

theorem witness_SnapshotsAreStableDuringACycle :
    (listed goodBusy .scan []).Inv ∧ (listed goodBusy .scan []).scanq ≠ [] ∧ ¬ ResetIsNext (listed goodBusy .scan []) ∧
    ∃ t, step (listed goodBusy .scan []) = .next t :=
  ⟨goodBusyScan_inv, by decide, not_reset_of_listed rfl (by simp), ⟨_, rfl⟩⟩

/-- Note 38 sounds in `goodSynth`, note 59 does not and slot 1 is its lowest free one; a full table. -/
theorem witness_VonTakesTheLowestFreeSlot :
    (∃ v ∈ goodSynth.voices, v.valid = true ∧ v.note.toNat = 38) ∧
    (∀ v ∈ [(⟨true, 36, 2, 0⟩ : Voice)], v.valid = true) ∧
    ((∀ v ∈ goodSynth.voices, v.valid = true → v.note.toNat ≠ 59) ∧ goodSynth.voices[1]? = some Voice.idle ∧
      Voice.idle.valid = false ∧ (∀ j v, j < 1 → goodSynth.voices[j]? = some v → v.valid = true) ∧
      goodSynth.cfg.period[59]? = some 13 ∧ 2 ≤ (13 : BitVec 16).toNat) := by
  refine ⟨by decide, by decide, by decide, by decide, by decide, ?_, by decide, by decide⟩
  intro j v hj hv
  obtain rfl : j = 0 := by omega
  obtain rfl := Option.some.inj hv
  rfl

theorem witness_VoffMakesTheVoiceIdle :
    (∀ v ∈ goodSynth.voices, v.valid = true → v.note.toNat ≠ 40) ∧
    (goodSynth.voices[0]? = some ⟨true, 38, 4, 1⟩ ∧
      (∀ j v, j ≠ 0 → goodSynth.voices[j]? = some v → v.valid = true → v.note.toNat ≠ 38)) := by
  refine ⟨by decide, by decide, ?_⟩
  intro j v hj hv hval
  have hm : v ∈ goodSynth.voices.drop 1 := by
    refine List.mem_of_getElem? (i := j - 1) ?_
    rw [List.getElem?_drop, show 1 + (j - 1) = j by omega]
    exact hv
  have hall : ∀ v ∈ goodSynth.voices.drop 1, v.valid = true → v.note.toNat ≠ 38 := by decide
  exact hall v hm hval

theorem witness_ShapeContributionsAreExactQuotients :
    (1 < 2 ∧ 2 ≤ 2 ∧ 2 * 1 = 2) ∧ (2 < 5 ∧ 2 * 2 < 5 ∧ 1 ≤ 64) ∧ (3 < 5 ∧ 5 ≤ 2 * 3) := by decide

theorem witness_TickWritesTheSampleAndAdvances :
    goodSynth.mode = .synth ∧ goodSynth.cfg.pwmTop < 65536 ∧
    (∀ v ∈ goodSynth.voices, v.valid = true → v.phase.toNat < v.period.toNat ∧ 2 ≤ v.period.toNat) ∧
    goodSynth.voices[0]? = some ⟨true, 38, 4, 1⟩ ∧ goodSynth.voices[1]? = some Voice.idle := by decide

theorem witness_TickHasNoEffectInMidiMode : midi.mode = .midi := by decide

theorem witness_TickTouchesOnlyTheSynthesizer :
    let s := goodSynth
    let s' := (goodSynth.setPotval0 9).setPotchg 1
    s' ≠ s ∧ s'.cfg = s.cfg ∧ s'.mode = s.mode ∧ s'.voices = s.voices ∧ s'.time = s.time ∧ s'.duty = s.duty := by decide

theorem witness_SampleStaysWithinTheDutyRange : goodSynth.Inv ∧ goodSynth.mode = .synth := ⟨goodSynth_inv, by decide⟩

theorem witness_PressThenReleaseLeavesNoResidue :
    goodSynth.Inv ∧ goodSynth.mode = .synth ∧ 59 < goodSynth.cfg.noteNumber ∧
    (∀ v ∈ goodSynth.voices, v.valid = true → v.note.toNat ≠ 59) ∧ (∃ v ∈ goodSynth.voices, v.valid = false) :=
  ⟨goodSynth_inv, by decide, by decide, by decide, by decide⟩

/-- The voice of `goodSynth` is in step with T, and the TICK answers a next state; its period divides 2^32. -/
theorem witness_PhasesStayLockedToTheSampleCounter :
    (listed goodSynth .timer []).Inv ∧ PhasesLocked (listed goodSynth .timer []) ∧
    (∃ t, step (listed goodSynth .timer []) = .next t) ∧ (listed goodSynth .timer []).time.toNat + 1 < 2 ^ 32 ∧
    (∀ v ∈ (listed goodSynth .timer []).voices, v.valid = true → v.period.toNat ∣ 2 ^ 32) :=
  let h := goodSynth_inv
  ⟨⟨h.cfg, h.keycur, h.keyprev, h.pitch0, h.errors, h.pots, h.duty, h.voices, h.laststatus, h.scanq, h.otherBackend⟩,
    by unfold PhasesLocked; decide, ⟨_, rfl⟩, by decide, by decide⟩

theorem witness_TickAndVonCommuteExceptForDuty :
    goodSynth.Inv ∧ goodSynth.mode = .synth ∧ 59 < goodSynth.cfg.noteNumber ∧ goodSynth.time.toNat + 1 < 2 ^ 32 ∧
    ∃ a b a' b', exec (.von 59) goodSynth = .next a ∧ exec .tick a = .next a' ∧
      exec .tick goodSynth = .next b ∧ exec (.von 59) b = .next b' :=
  ⟨goodSynth_inv, by decide, by decide, by decide, _, _, _, _, rfl, rfl, rfl, rfl⟩

theorem witness_CapacityExhaustionIsSilent :
    (∀ v ∈ ({ State.reset with voices := [⟨true, 36, 2, 0⟩, ⟨true, 37, 3, 0⟩, ⟨true, 38, 4, 0⟩] } : State).voices,
      v.valid = true) ∧
    (let s := { midi with keycur := [0x00, 0x20] }
     s.mode = .midi ∧ (KeyKind.press, 11) ∈ keyEvents s.cfg s.keycur s.keyprev) := by decide

theorem witness_UnmatchedReleaseIsSilentInSynthAndSentInMidi :
    (∀ v ∈ State.reset.voices, ¬ (v.valid = true ∧ v.note.toNat = 36)) ∧
    (let s := { midi with keyprev := [0x01, 0x00] }
     s.mode = .midi ∧ (KeyKind.release, 0) ∈ keyEvents s.cfg s.keycur s.keyprev) := by decide

theorem witness_PressesFillTheFreeSlotsAndTheRestAreDropped :
    [36, 37, 39].Nodup ∧ (∀ n ∈ [36, 37, 39], n < 256) ∧ (∀ n ∈ [36, 37, 39], n ∉ soundingNotes goodSynth.voices) := by
  decide

theorem witness_NoteByteIsTheExactSum : goodEdge.Inv ∧ 11 < goodEdge.cfg.keysNumber := ⟨goodEdge_inv, by decide⟩

theorem witness_NoteMessagesArePressesThenReleases :
    midi.cfg.midiChannel < 16 ∧ [(KeyKind.press, 2), (KeyKind.release, 0)] ≠ [] := by decide

theorem witness_PotMessagesArePitchBendThenControlChange : midi.cfg.midiChannel < 16 := by decide

theorem witness_SertxSendsOneByte : 128 ≤ (0x80 : Byte).toNat ∧ (0x7F : Byte).toNat < 128 := by decide

theorem midi_inv : midi.Inv :=
  good_of_checks (by decide) (by decide) (by decide) (by decide) (by unfold ErrorOk; decide) (by unfold PotsOk; decide)
    (by decide) (by unfold Voice.ok; decide) (by decide) ⟨by decide, by decide, by decide⟩ (by unfold OtherBackendIdle; decide)

theorem witness_PressAndReleaseAreFramedAsMidi :
    midi.Inv ∧ midi.mode = .midi ∧ midi.scanq = [] ∧ midi.cfg.midiC0 = 60 ∧ midi.cfg.midiChannel = 0 ∧ midi.pitch0 = 36 ∧
    midi.keycur = 0x00 :: [0x00] ∧ midi.keyprev = 0x00 :: [0x00] ∧ midi.setcur = 0 ∧ midi.setprev = 0 ∧
    midi.potchg = 0 ∧ midi.laststatus = 0 ∧ midi.cfg.runningStatusAcrossCycles = false :=
  ⟨midi_inv, by decide⟩

theorem witness_MidiScanCycleSendsItsMessages : goodMidi.Inv ∧ goodMidi.mode = .midi ∧ goodMidi.scanq = [] :=
  ⟨goodMidi_inv, by decide, by decide⟩

theorem witness_SynthScanCyclePlaysItsEvents : goodEdge.Inv ∧ goodEdge.mode = .synth ∧ goodEdge.scanq = [] :=
  ⟨goodEdge_inv, by decide, by decide⟩

theorem witness_ResetSetsEveryComponent :
    goodBusy.cfg.wellFormed = true ∧ (listed goodBusy (.reset .midi) []).env.turns = [.reset .midi] := by decide

theorem witness_IllFormedConfigurationHasNoStep : ({ Config.cfgT with midiChannel := 16 } : Config).wellFormed = false := by
  decide

theorem witness_FirstTickAfterResetIsSilence :
    Config.cfgT.wellFormed = true ∧ powerOn Config.cfgT .synth = some State.reset := by decide

theorem witness_FirstScanReportsEveryKeyDown : State.reset.keyprev.all (fun b => decide (b = 0)) = true := by decide

theorem witness_ScanRightAfterResetIsEmptyCycle : powerOn Config.cfgT .midi = some midi := by decide

/-- Key 2 is held at pitch 36 (note 38) while the pitch moves down an octave. -/
theorem witness_HeldVoiceOutlivesAPitchShift :
    ∃ t, exec (.pshift (-12)) goodSynth = .next t ∧ (⟨true, 38, 4, 1⟩ : Voice) ∈ goodSynth.voices ∧
      (38 : BitVec 8).toNat = goodSynth.pitch0.toNat + 2 ∧ t.pitch0 ≠ goodSynth.pitch0 :=
  ⟨_, rfl, by decide, by decide, by decide⟩

theorem witness_EveryStepKeepsTheInvariant :
    (listed goodBusy .scan []).Inv ∧ ∃ t, step (listed goodBusy .scan []) = .next t :=
  ⟨goodBusyScan_inv, ⟨_, rfl⟩⟩

theorem witness_ResetIsAGoodState : powerOn Config.cfgT .midi = some midi := by decide

theorem witness_GoodStatesNeverStop : goodBusy.Inv := goodBusy_inv

theorem witness_ReachableVoiceTablesAreSound :
    powerOn Config.cfgT .synth = some State.reset ∧
    ∃ t, Host.Core.run core 2 { State.reset with env := ⟨[.timer, .host], 0, [0x4000], 0⟩ } = .next t :=
  ⟨by decide, ⟨_, rfl⟩⟩

/-- For each clause an operation that does write what only it may write. -/
theorem witness_EachRegisterHasItsExclusiveWriter :
    (∃ t, exec .tick goodEdge = .next t) ∧
    (∃ t, exec (.sertx 1) midi = .next t ∧ t.serout ≠ midi.serout) ∧
    (∃ t, exec (.keywr 1 1) midi = .next t ∧ t.keycur ≠ midi.keycur) ∧
    (∃ t, exec (.setwr 1) midi = .next t ∧ t.setcur ≠ midi.setcur) ∧
    (∃ t, exec .advance goodEdge = .next t ∧ t.keyprev ≠ goodEdge.keyprev) ∧
    (∃ t, exec .tick State.reset = .next t ∧ t.duty ≠ State.reset.duty) :=
  ⟨⟨_, rfl⟩, ⟨_, rfl, by decide⟩, ⟨_, rfl, by decide⟩, ⟨_, rfl, by decide⟩, ⟨_, rfl, by decide⟩, ⟨_, rfl, by decide⟩⟩

theorem witness_HostCommandsLeaveTheBackendsAlone :
    (Instr.rdreg 0x17).path = .host ∧ ∃ t, exec (.rdreg 0x17) goodSynth = .next t := ⟨rfl, ⟨_, rfl⟩⟩

theorem witness_ModeIsFixedAndSeroutOnlyGrows :
    (∃ t, step (listed goodBusy .scan []) = .next t) ∧ ¬ ResetIsNext (listed goodBusy .scan []) :=
  ⟨⟨_, rfl⟩, not_reset_of_listed rfl (by simp)⟩

theorem witness_ScanQueueLengthIsBounded : goodMidi.mode = .midi ∧ goodEdge.mode = .synth := by decide

end Sys2Proof.Tests
end

section
/-! The match patterns of R94: what the decoder answers for a word built from its fields, one equation an operation. -/

namespace Sys2Proof.Machine

/-- A pattern of R94, its fields written side by side, is the word built from those fields. -/
theorem append_eq_mkWord (op : Nat) (x : BitVec 4) (y : Byte) :
    BitVec.ofNat 4 op ++ x ++ y = mkWord op x.toNat y := by
  rw [mkWord, BitVec.ofNat_toNat, BitVec.setWidth_eq]

@[simp] theorem deltaField_mkWord (op idx : Nat) (b : Byte) : deltaField (mkWord op idx b) = b.toInt := by
  rw [deltaField, dataField_mkWord]

end Sys2Proof.Machine

namespace Sys2Proof

open Sys2Proof.Machine

/-- A word built with idx 0 passes the check of `[11:8] = 0`. -/
@[simp] theorem needIdxZero_mkWord_zero (op : Nat) (b : Byte) (i : Instr) : needIdxZero (mkWord op 0 b) i = .ok i :=
  needIdxZero_ok.mpr ⟨idxField_mkWord op 0 b, rfl⟩

/-- A word built with idx 0 and data 0 passes the check of `[11:0] = 0`. -/
@[simp] theorem needLowZero_mkWord_zero (op : Nat) (i : Instr) : needLowZero (mkWord op 0 0#8) i = .ok i :=
  needLowZero_ok.mpr ⟨lowField_mkWord op 0 0#8, rfl⟩

theorem decode_mkWord_keywr (g : Nat) (v : Byte) : decode (mkWord 0x1 g v) = .ok (.keywr (g % 16) v) := by
  simp [decode]

theorem decode_mkWord_setwr (v : Byte) : decode (mkWord 0x2 0 v) = .ok (.setwr v) := by simp [decode]

theorem decode_mkWord_potwr (c : Nat) (v : Byte) : decode (mkWord 0x3 c v) = .ok (.potwr (c % 16) v) := by
  simp [decode]

theorem decode_mkWord_scan : decode (mkWord 0x4 0 0) = .ok .scan := by simp [decode]

theorem decode_mkWord_tick : decode (mkWord 0x5 0 0) = .ok .tick := by simp [decode]

theorem decode_mkWord_rdreg (r : Byte) : decode (mkWord 0x6 0 r) = .ok (.rdreg r.toNat) := by simp [decode]

theorem decode_mkWord_von (n : Byte) : decode (mkWord 0x8 0 n) = .ok (.von n.toNat) := by simp [decode]

theorem decode_mkWord_voff (n : Byte) : decode (mkWord 0x9 0 n) = .ok (.voff n.toNat) := by simp [decode]

theorem decode_mkWord_pshift (d : Byte) : decode (mkWord 0xA 0 d) = .ok (.pshift d.toInt) := by simp [decode]

theorem decode_mkWord_potclr : decode (mkWord 0xB 0 0) = .ok .potclr := by simp [decode]

theorem decode_mkWord_sertx (b : Byte) : decode (mkWord 0xC 0 b) = .ok (.sertx b) := by simp [decode]

theorem decode_mkWord_advance : decode (mkWord 0xD 0 0) = .ok .advance := by simp [decode]

/-- Settles O1: each pattern of R94 is the word built from its fields (with a zero idx, by the definition of `mkWord`), and
a nibble read as a number needs no reduction mod 16. -/
theorem matchPatternsDecodeToTheirOperations : Obligations.MatchPatternsDecodeToTheirOperations := by
  intro x y
  have hx : x.toNat % 16 = x.toNat := Nat.mod_eq_of_lt x.isLt
  have keywr : decode (0b0001#4 ++ x ++ y) = .ok (.keywr x.toNat y) := by
    rw [append_eq_mkWord, decode_mkWord_keywr, hx]
  have potwr : decode (0b0011#4 ++ x ++ y) = .ok (.potwr x.toNat y) := by
    rw [append_eq_mkWord, decode_mkWord_potwr, hx]
  exact ⟨keywr, decode_mkWord_setwr y, potwr, decode_mkWord_scan, decode_mkWord_tick, decode_mkWord_rdreg y,
    decode_mkWord_von y, decode_mkWord_voff y, decode_mkWord_pshift y, decode_mkWord_potclr, decode_mkWord_sertx y,
    decode_mkWord_advance⟩

end Sys2Proof
end

section
/-! What the host commands of spec/40_host_interface.md can write: the snapshots' current halves, the pot readings and flags,
the command-error registers, RDATA and SCANQ, and nothing else. -/

namespace Sys2Proof.Machine

/-- `s` with the registers that some host command writes (KEYWR, SETWR, POTWR, SCAN, RDREG and their refusals) taken from
`t`. -/
def State.withHostRegsOf (s t : State) : State :=
  { s with keycur := t.keycur, setcur := t.setcur, potval0 := t.potval0, potval1 := t.potval1, potchg := t.potchg,
           cmderr := t.cmderr, errcause := t.errcause, rdata := t.rdata, scanq := t.scanq }

theorem raiseCmdError_eq_withHostRegsOf (c : Cause) (s : State) :
    raiseCmdError c s = s.withHostRegsOf (raiseCmdError c s) := by
  rcases raiseCmdError_cases c s with ⟨-, e⟩ | ⟨-, e⟩ <;> rw [e] <;> rfl

/-- Storing a reading and setting its flag moves POTVAL and POTCHG only, whatever the channel. -/
theorem setPotval_raisePotFlag_eq_withHostRegsOf (s : State) (c : Nat) (v : Byte) :
    (s.setPotval c v).raisePotFlag c = s.withHostRegsOf ((s.setPotval c v).raisePotFlag c) := by
  unfold State.setPotval
  split
  · rfl
  · split <;> rfl

section
variable {s t : State}

theorem execKeywr_frame {g : Nat} {v : Byte} (h : execKeywr g v s = .next t) : t = s.withHostRegsOf t := by
  unfold execKeywr at h
  split at h <;> cases h
  · exact raiseCmdError_eq_withHostRegsOf .indexRange s
  · rfl

theorem execSetwr_frame {v : Byte} (h : execSetwr v s = .next t) : t = s.withHostRegsOf t := by
  cases h
  rfl

theorem execPotwr_frame {c : Nat} {v : Byte} (h : execPotwr c v s = .next t) : t = s.withHostRegsOf t := by
  unfold execPotwr at h
  split at h
  · cases h
    exact raiseCmdError_eq_withHostRegsOf .indexRange s
  · split at h <;> cases h
    · exact setPotval_raisePotFlag_eq_withHostRegsOf s c v
    · rfl

theorem execScan_frame (h : execScan s = .next t) : t = s.withHostRegsOf t := by
  cases h
  rfl

theorem execRdreg_frame {r : Nat} (h : execRdreg r s = .next t) : t = s.withHostRegsOf t := by
  unfold execRdreg at h
  split at h <;> cases h
  · rfl
  · exact raiseCmdError_eq_withHostRegsOf .indexRange s

/-- The frame of every host command, accepted or refused (R120, R123, R126, R129, R132, R301). -/
theorem exec_host_frame {i : Instr} (hp : i.path = .host) (h : exec i s = .next t) : t = s.withHostRegsOf t := by
  cases i with
  | keywr g v => exact execKeywr_frame h
  | setwr v => exact execSetwr_frame h
  | potwr c v => exact execPotwr_frame h
  | scan => exact execScan_frame h
  | rdreg r => exact execRdreg_frame h
  | tick | von | voff | pshift | potclr | sertx | advance => cases hp

end

end Sys2Proof.Machine

namespace Sys2Proof

open Sys2Proof.Machine

/-- Settles O58: none of R136's nine registers is among those of `State.withHostRegsOf`, the frame of every host command. -/
theorem hostCommandsLeaveTheBackendsAlone : Obligations.HostCommandsLeaveTheBackendsAlone := by
  intro i s t hp h
  rw [exec_host_frame hp h]
  exact ⟨rfl, rfl, rfl, rfl, rfl, rfl, rfl, rfl, rfl⟩

end Sys2Proof
end

section
/-! The transition detector of spec/41_transition_detector.md: the key events as the changed keys in order, their number
group by group, the settings edges, and the words of the cycle's list. -/

namespace Sys2Proof.Machine

/-- An event of the list is the event of its own key, a key of the keyboard (R150). -/
theorem mem_keyEvents {c : Config} {C P : List Byte} {kind : KeyKind} {k : Nat} :
    (kind, k) ∈ keyEvents c C P ↔ k < c.keysNumber ∧ keyEvent C P k = some (kind, k) := by
  rw [keyEvents, List.mem_filterMap]
  constructor
  · rintro ⟨j, hj, he⟩
    obtain rfl : k = j := by
      rcases keyEvent_eq_some.mp he with ⟨e, -⟩ | ⟨e, -⟩ <;> exact congrArg Prod.snd e
    exact ⟨List.mem_range.mp hj, he⟩
  · rintro ⟨hk, he⟩
    exact ⟨k, List.mem_range.mpr hk, he⟩

theorem keyEvent_eq_some_press {C P : List Byte} {k : Nat} :
    keyEvent C P k = some (.press, k) ↔ keyDown C k = true ∧ keyDown P k = false := by
  simp [keyEvent_eq_some]

theorem keyEvent_eq_some_release {C P : List Byte} {k : Nat} :
    keyEvent C P k = some (.release, k) ↔ keyDown C k = false ∧ keyDown P k = true := by
  simp [keyEvent_eq_some]

/-- The key index of one key's event is that key, and is there exactly when the key's bit changed. -/
theorem keyEvent_map_snd (C P : List Byte) (k : Nat) :
    (keyEvent C P k).map Prod.snd = if keyDown C k != keyDown P k then some k else none := by
  unfold keyEvent
  cases keyDown C k <;> cases keyDown P k <;> rfl

/-- The key indices of the events are the changed keys, in the order of the scan (R150, R151). -/
theorem keyEvents_map_snd (c : Config) (C P : List Byte) :
    (keyEvents c C P).map Prod.snd = (List.range c.keysNumber).filter (fun k => keyDown C k != keyDown P k) := by
  rw [keyEvents, List.map_filterMap, ← List.filterMap_eq_filter]
  exact congrArg (List.filterMap · _) (funext (keyEvent_map_snd C P))

theorem keyEvents_length (c : Config) (C P : List Byte) :
    (keyEvents c C P).length = (List.range c.keysNumber).countP (fun k => keyDown C k != keyDown P k) := by
  rw [← List.length_map (f := Prod.snd), keyEvents_map_snd, List.countP_eq_length_filter]

/-- Counting below `m * n` is counting in each of the `n` blocks of `m`. -/
theorem countP_range_mul (p : Nat → Bool) (m n : Nat) :
    (List.range (m * n)).countP p =
      ((List.range n).map (fun g => (List.range m).countP (fun b => p (m * g + b)))).sum := by
  induction n with
  | zero => rfl
  | succ n ih =>
    rw [Nat.mul_succ, List.range_add, List.countP_append, ih, List.countP_map, List.range_succ, List.map_append,
      List.sum_append]
    simp [Function.comp_def]

/-- Key `b` of group `g` is bit `b` of the group's snapshot (R33). -/
theorem keyDown_group {l : List Byte} {g b : Nat} (hb : b < 6) : keyDown l (6 * g + b) = (l.getD g 0).getLsbD b := by
  rw [keyDown, show (6 * g + b) / 6 = g by omega, show (6 * g + b) % 6 = b by omega]

/-- The changed keys of one group are the set bits of the exclusive or of its two snapshots (R152). -/
theorem countP_changed_group (C P : List Byte) (g : Nat) :
    (List.range 6).countP (fun b => keyDown C (6 * g + b) != keyDown P (6 * g + b)) =
      popcount6 (C.getD g 0 ^^^ P.getD g 0) := by
  refine List.countP_congr fun b hb => ?_
  have hb : b < 6 := List.mem_range.mp hb
  rw [keyDown_group hb, keyDown_group hb, BitVec.getLsbD_xor, Bool.bne_eq_xor]

/-! The words of R94 with the fields a cycle gives them, written out. -/

theorem encode_von (n : Nat) : encode (.von n) = 0x8#4 ++ 0#4 ++ BitVec.ofNat 8 n := rfl
theorem encode_voff (n : Nat) : encode (.voff n) = 0x9#4 ++ 0#4 ++ BitVec.ofNat 8 n := rfl
theorem encode_pshift (d : Int) : encode (.pshift d) = 0xA#4 ++ 0#4 ++ BitVec.ofInt 8 d := rfl
theorem encode_sertx (b : Byte) : encode (.sertx b) = 0xC#4 ++ 0#4 ++ b := rfl
theorem encode_potclr : encode .potclr = 0xB000 := rfl
theorem encode_advance : encode .advance = 0xD000 := rfl

/-- The words of the cycle's list behind the backend's (R170). -/
theorem cycleList_eq (s : State) :
    cycleList s = (backendOps s (keyEvents s.cfg s.keycur s.keyprev)).map encode
      ++ (settingsEdges s.setcur s.setprev).map (fun d => 0xA#4 ++ 0#4 ++ BitVec.ofInt 8 d)
      ++ [0xB000, 0xD000] := by
  simp only [cycleList, cycleOps, List.map_append, List.map_map, List.map_cons, List.map_nil, encode_potclr,
    encode_advance, Function.comp_def, encode_pshift]

/-- One word an event, in the events' order (R171). -/
theorem synthOps_map_encode (s : State) (es : List (KeyKind × Nat)) :
    (synthOps s es).map encode = es.map (fun e =>
      (if e.1 = .press then 0x8#4 else 0x9#4) ++ 0#4 ++ BitVec.ofNat 8 (s.pitch0.toNat + e.2)) := by
  rw [synthOps, List.map_map]
  refine List.map_congr_left fun e _ => ?_
  obtain ⟨kind, k⟩ := e
  cases kind with
  | press => exact encode_von _
  | release => exact encode_voff _

/-- One word a byte, note messages before pot messages (R236). -/
theorem midiOps_map_encode (s : State) (es : List (KeyKind × Nat)) :
    (midiOps s es).map encode = (noteMsgBytes s es ++ potMsgBytes s).map (fun b => 0xC#4 ++ 0#4 ++ b) := by
  rw [midiOps, List.map_map]
  exact List.map_congr_left fun b _ => encode_sertx b

end Sys2Proof.Machine

namespace Sys2Proof

open Sys2Proof.Machine

/-- Settles O16: membership is that of one key's event, and the key indices are a part of the ascending range. -/
theorem keyEventsAreTheChangedBitsInOrder : Obligations.KeyEventsAreTheChangedBitsInOrder := by
  intro c C P
  refine ⟨fun k => ?_, fun k => ?_, ?_⟩
  · exact mem_keyEvents.trans (and_congr_right fun _ => keyEvent_eq_some_press)
  · exact mem_keyEvents.trans (and_congr_right fun _ => keyEvent_eq_some_release)
  · rw [keyEvents_map_snd]
    exact List.pairwise_lt_range.filter _

/-- Settles O17: the events are counted as changed keys, and these in blocks of six, one block a group. -/
theorem keyEventsAreAsManyAsChangedBits : Obligations.KeyEventsAreAsManyAsChangedBits := by
  constructor
  · intro c C P hc
    rw [keyEvents_length, (wellFormed_facts hc).keys_eq, countP_range_mul]
    simp only [countP_changed_group]
  · intro s t hcfg hcur hprev
    rw [hcfg, hcur, hprev]

/-- Settles O20: the backend's words by run mode, in front of the words both modes share. -/
theorem cycleListHasItsFourPartsInOrder : Obligations.CycleListHasItsFourPartsInOrder := by
  intro s
  constructor
  · intro hm
    rw [cycleList_eq, backendOps, hm, synthOps_map_encode]
  · intro hm
    rw [cycleList_eq, backendOps, hm, midiOps_map_encode]

/-- Settles O21: the four words are those of the deltas' bytes, and the new pitch is the clamped add of R162. -/
theorem pshiftClampsPitch0 : Obligations.PshiftClampsPitch0 := by
  constructor
  · decide
  · intro d s h
    exact ⟨shiftPitch s.cfg s.pitch0 d, rfl, shiftPitch_toNat h s.pitch0 d⟩

/-- Settles O18: a list filtered by a condition an entry is the concatenation of one part an entry. -/
theorem settingsEdgesAreTheRisingEdgesInOrder : Obligations.SettingsEdgesAreTheRisingEdgesInOrder := by
  intro S SP
  rw [settingsEdges, List.filterMap_eq_flatMap_toList]
  simp only [settingsDeltas, List.flatMap_cons, List.flatMap_nil, List.append_nil, List.append_assoc,
    apply_ite Option.toList, Option.toList_some, Option.toList_none]

end Sys2Proof
end

section
/-! TICK by run mode: what a sample tick answers in MIDI mode (R201). -/

namespace Sys2Proof.Machine

theorem exec_tick (s : State) : exec .tick s = execTick s := rfl

theorem execTick_of_midi {s : State} (hm : s.mode = .midi) : execTick s = .next s := by
  rw [execTick, hm]

end Sys2Proof.Machine

namespace Sys2Proof

open Sys2Proof.Machine

/-- Settles O30: TICK is `execTick`, whose MIDI arm answers the state it was given. -/
theorem tickHasNoEffectInMidiMode : Obligations.TickHasNoEffectInMidiMode := by
  intro s hm
  rw [exec_tick, execTick_of_midi hm]

end Sys2Proof
end

section
/-! The MIDI byte lists (R231 to R234): a status byte as a number, the two queues as the filtered event list, and the
note messages as one concatenation. -/

namespace Sys2Proof.Machine

/-- R11: a channel fits the low nibble, which every message type leaves zero, so the `or` is a sum. -/
theorem statusByte_toNat {base : Byte} {c : Config} (hb : 2 ^ 4 ∣ base.toNat) (hc : c.midiChannel < 16) :
    (statusByte base c).toNat = base.toNat + c.midiChannel := by
  obtain ⟨n, hn⟩ := hb
  rw [statusByte, BitVec.toNat_or, BitVec.toNat_ofNat, Nat.mod_eq_of_lt (by omega), hn,
    Nat.two_pow_add_eq_or_of_lt hc]

theorem noteOnStatus_toNat {c : Config} (hc : c.midiChannel < 16) :
    (noteOnStatus c).toNat = 0x90 + c.midiChannel :=
  statusByte_toNat (by decide) hc

theorem onQueue_eq_map_filter (es : List (KeyKind × Nat)) :
    onQueue es = (es.filter (fun e => decide (e.1 = .press))).map Prod.snd := by
  induction es with
  | nil => rfl
  | cons e es ih =>
    obtain ⟨_ | _, k⟩ := e
    · exact congrArg (k :: ·) ih
    · exact ih

theorem offQueue_eq_map_filter (es : List (KeyKind × Nat)) :
    offQueue es = (es.filter (fun e => decide (e.1 = .release))).map Prod.snd := by
  induction es with
  | nil => rfl
  | cons e es ih =>
    obtain ⟨_ | _, k⟩ := e
    · exact ih
    · exact congrArg (k :: ·) ih

/-- Every event goes into exactly one of the two queues. -/
theorem onQueue_length_add_offQueue_length (es : List (KeyKind × Nat)) :
    (onQueue es).length + (offQueue es).length = es.length := by
  have hoff : (fun e : KeyKind × Nat => decide (e.1 = .release)) = fun e => !decide (e.1 = .press) := by
    funext ⟨kind, _⟩
    cases kind <;> rfl
  rw [onQueue_eq_map_filter, offQueue_eq_map_filter, List.length_map, List.length_map, hoff,
    ← List.length_eq_length_filter_add]

theorem noteMsgBytes_nil (s : State) : noteMsgBytes s [] = [] := rfl

theorem noteMsgBytes_of_ne_nil (s : State) {es : List (KeyKind × Nat)} (h : es ≠ []) :
    noteMsgBytes s es = statusPart s
      ++ (es.filter (fun e => decide (e.1 = .press))).flatMap (fun e => [noteByte s e.2, velOn])
      ++ (es.filter (fun e => decide (e.1 = .release))).flatMap (fun e => [noteByte s e.2, velOff]) := by
  rw [noteMsgBytes, onQueue_length_add_offQueue_length, if_neg (mt List.length_eq_zero_iff.mp h),
    onQueue_eq_map_filter, offQueue_eq_map_filter, List.flatMap_map, List.flatMap_map]

end Sys2Proof.Machine

namespace Sys2Proof

open Sys2Proof.Machine

/-- Settles O41: the status byte is NOTE_ON on the channel, and the queues are the list's Presses and Releases. -/
theorem noteMessagesArePressesThenReleases : Obligations.NoteMessagesArePressesThenReleases := by
  intro s es hc
  constructor
  · rintro rfl
    exact noteMsgBytes_nil s
  · intro hne
    exact ⟨noteOnStatus s.cfg, noteOnStatus_toNat hc, noteMsgBytes_of_ne_nil s hne⟩

end Sys2Proof
end

section
/-! Capacity (R304): a full voice table ignores VON (R192), and the MIDI encoder, which has no voice table, puts the bytes of
every Press into the cycle's list. -/

namespace Sys2Proof.Machine

theorem exec_von (n : Nat) (s : State) : exec (.von n) s = execVon n s := rfl

@[simp] theorem setVoices_voices_self (s : State) : s.setVoices s.voices = s := rfl

/-- With every slot Sounding no slot is free for a new voice, so of the three cases of VON two are left (R192). -/
theorem voicesOn_of_full (c : Config) (t : BitVec 32) (n : Nat) {vs : List Voice} (hfull : ∀ v ∈ vs, v.valid = true) :
    voicesOn c t n vs = vs := by
  rcases voicesOn_cases c t n vs with ⟨-, hsame⟩ | ⟨-, -, hsame⟩ | ⟨-, i, u, hu, hfree, -, -⟩
  · exact hsame
  · exact hsame
  · have hvalid : u.valid = true := hfull u (List.mem_of_getElem? hu)
    rw [hfree] at hvalid
    cases hvalid

theorem execVon_of_full (n : Nat) {s : State} (hfull : ∀ v ∈ s.voices, v.valid = true) : execVon n s = .next s := by
  rw [execVon, voicesOn_of_full s.cfg s.time n hfull, setVoices_voices_self]

/-- Mathlib's `List.infix_flatMap_of_mem` for parts of another type than the list's own. -/
theorem infix_flatMap_of_mem {α β : Type} (f : α → List β) {a : α} {as : List α} (h : a ∈ as) : f a <:+: as.flatMap f :=
  List.infix_of_mem_flatten (List.mem_map_of_mem h)

/-- The bytes of a Press stand side by side among the note messages (R233). -/
theorem pressBytes_infix_noteMsgBytes (s : State) {es : List (KeyKind × Nat)} {k : Nat} (h : (KeyKind.press, k) ∈ es) :
    [noteByte s k, velOn] <:+: noteMsgBytes s es := by
  have hpress : (KeyKind.press, k) ∈ es.filter (fun e => decide (e.1 = .press)) := List.mem_filter.mpr ⟨h, rfl⟩
  rw [noteMsgBytes_of_ne_nil s (List.ne_nil_of_mem h)]
  exact (infix_flatMap_of_mem (fun e => [noteByte s e.2, velOn]) hpress).trans (List.infix_append _ _ _)

/-- In MIDI mode bytes that stand side by side among the note messages are sent side by side in the cycle (R236, R170). -/
theorem map_sertx_infix_cycleOps {s : State} (hm : s.mode = .midi) {bs : List Byte}
    (h : bs <:+: noteMsgBytes s (keyEvents s.cfg s.keycur s.keyprev)) : bs.map Instr.sertx <:+: cycleOps s := by
  have hbytes : bs <:+: noteMsgBytes s (keyEvents s.cfg s.keycur s.keyprev) ++ potMsgBytes s :=
    h.trans (List.prefix_append _ _).isInfix
  rw [cycleOps, backendOps, hm, midiOps, List.append_assoc]
  exact (hbytes.map _).trans (List.prefix_append _ _).isInfix

end Sys2Proof.Machine

namespace Sys2Proof

open Sys2Proof.Machine

/-- Settles O36: on a full table `voicesOn_cases` leaves the two cases that change nothing; the encoder's pair is carried from the
Presses to the note messages and from there to the cycle's operations. -/
theorem capacityExhaustionIsSilent : Obligations.CapacityExhaustionIsSilent := by
  constructor
  · intro n s hfull
    rw [exec_von, execVon_of_full n hfull]
  · intro s k hm hpress
    obtain ⟨xs, ys, h⟩ := map_sertx_infix_cycleOps hm (pressBytes_infix_noteMsgBytes s hpress)
    exact ⟨xs, ys, h.symm⟩

end Sys2Proof
end

section
/-! Power-on: an ill-formed configuration has neither a reset nor a step (R20, R351). -/

namespace Sys2Proof.Machine

/-- Power-on reset is guarded by the configuration's check alone, whichever run mode MODESEL gives. -/
theorem powerOn_of_illFormed {c : Config} (h : c.wellFormed = false) (m : RunMode) : powerOn c m = none := by
  simp [powerOn, h]

end Sys2Proof.Machine

namespace Sys2Proof

open Sys2Proof.Machine

/-- Settles O48: power-on and the step are both guarded by the configuration's check, before a mode or a turn is looked at. -/
theorem illFormedConfigurationHasNoStep : Obligations.IllFormedConfigurationHasNoStep := by
  intro c hc
  constructor
  · exact powerOn_of_illFormed hc
  · rintro s rfl
    exact step_of_illFormed hc

end Sys2Proof
end

section
/-! The encoder and the decoder are inverse to each other (R90 to R94): every well-formed operation comes back from its word,
and a word that decodes is the word of the operation it decodes to. -/

namespace Sys2Proof.Machine

/-- A word whose idx field is 0 is built from its op and data fields alone. -/
theorem mkWord_of_idx_zero {w : Word} {op : Nat} (hop : opField w = op) (h : idxField w = 0) :
    mkWord op 0 (dataField w) = w := by
  rw [← hop, ← h, mkWord_fields]

/-- A word with `w[11:0] = 0` is built from its op field alone. -/
theorem mkWord_of_low_zero {w : Word} {op : Nat} (hop : opField w = op) (h : lowField w = 0) : mkWord op 0 0 = w := by
  obtain ⟨hidx, hdata⟩ := (lowField_zero w).mp h
  rw [← hdata, mkWord_of_idx_zero hop hidx]

end Sys2Proof.Machine

namespace Sys2Proof

open Sys2Proof.Machine

/-- A signed 8-bit delta survives its two's-complement byte (R91). -/
theorem toInt_ofInt_delta {d : Int} (h : -128 ≤ d ∧ d ≤ 127) : (BitVec.ofInt 8 d).toInt = d :=
  BitVec.toInt_ofInt_eq_self (by decide) h.1 (by omega)

theorem toNat_ofNat_byte {n : Nat} (h : n < 256) : (BitVec.ofNat 8 n).toNat = n := by
  rw [BitVec.toNat_ofNat, Nat.mod_eq_of_lt h]

theorem decode_encode {i : Instr} (h : i.wellFormed = true) : decode (encode i) = .ok i := by
  cases i with
  | keywr g v => rw [encode, decode_mkWord_keywr, Nat.mod_eq_of_lt (of_decide_eq_true h)]
  | setwr v => exact decode_mkWord_setwr v
  | potwr c v => rw [encode, decode_mkWord_potwr, Nat.mod_eq_of_lt (of_decide_eq_true h)]
  | scan => exact decode_mkWord_scan
  | tick => exact decode_mkWord_tick
  | rdreg r => rw [encode, decode_mkWord_rdreg, toNat_ofNat_byte (of_decide_eq_true h)]
  | von n => rw [encode, decode_mkWord_von, toNat_ofNat_byte (of_decide_eq_true h)]
  | voff n => rw [encode, decode_mkWord_voff, toNat_ofNat_byte (of_decide_eq_true h)]
  | pshift d =>
    have hd : -128 ≤ d ∧ d ≤ 127 := by simpa [Instr.wellFormed] using h
    rw [encode, decode_mkWord_pshift, toInt_ofInt_delta hd]
  | potclr => exact decode_mkWord_potclr
  | sertx b => exact decode_mkWord_sertx b
  | advance => exact decode_mkWord_advance

/-- The codes 0x8 to 0xD are those of the operations that travel in SCANQ (R92, R93). -/
theorem microOp_opcode (i : Instr) : microOp i.opcode = decide (i.path = .scanq) := by
  cases i <;> rfl

/-- The micro-operation of an encoded one (R92). -/
theorem decodeMicro_encode {i : Instr} (h : i.wellFormed = true) (hp : i.path = .scanq) :
    decodeMicro (encode i) = some i := by
  have hop : microOp (opField (encode i)) = true := by
    rw [← decode_opcode (decode_encode h), microOp_opcode, hp]
    rfl
  rw [decodeMicro, if_pos hop, decode_encode h]
  rfl

theorem wellFormed_and_encode_of_decode {w : Word} {i : Instr} (h : decode w = .ok i) :
    i.wellFormed = true ∧ encode i = w := by
  have hidx := idxField_lt w
  have hdata := (dataField w).isLt
  unfold decode at h
  split at h
  case h_1 hop =>
    cases h
    exact ⟨decide_eq_true hidx, by rw [encode, ← hop, mkWord_fields]⟩
  case h_2 hop =>
    obtain ⟨hz, rfl⟩ := needIdxZero_ok.mp h
    exact ⟨rfl, mkWord_of_idx_zero hop hz⟩
  case h_3 hop =>
    cases h
    exact ⟨decide_eq_true hidx, by rw [encode, ← hop, mkWord_fields]⟩
  case h_4 hop | h_5 hop | h_10 hop | h_12 hop =>
    obtain ⟨hz, rfl⟩ := needLowZero_ok.mp h
    exact ⟨rfl, mkWord_of_low_zero hop hz⟩
  case h_6 hop | h_7 hop | h_8 hop =>
    obtain ⟨hz, rfl⟩ := needIdxZero_ok.mp h
    exact ⟨decide_eq_true hdata, by rw [encode, BitVec.ofNat_toNat, BitVec.setWidth_eq, mkWord_of_idx_zero hop hz]⟩
  case h_9 hop =>
    obtain ⟨hz, rfl⟩ := needIdxZero_ok.mp h
    have hd : -128 ≤ deltaField w ∧ deltaField w ≤ 127 :=
      ⟨BitVec.le_toInt _, Int.le_of_lt_add_one BitVec.toInt_lt⟩
    exact ⟨by simpa [Instr.wellFormed] using hd,
      by rw [encode, deltaField, BitVec.ofInt_toInt, mkWord_of_idx_zero hop hz]⟩
  case h_11 hop =>
    obtain ⟨hz, rfl⟩ := needIdxZero_ok.mp h
    exact ⟨rfl, mkWord_of_idx_zero hop hz⟩
  case h_13 => cases h

/-- A word of SCANQ that is a micro-op word decodes by the patterns of R94. -/
theorem decode_of_decodeMicro {w : Word} {i : Instr} (h : decodeMicro w = some i) : decode w = .ok i := by
  unfold decodeMicro at h
  split at h
  · cases hd : decode w with
    | error c => rw [hd] at h; cases h
    | ok j => rw [hd] at h; cases h; rfl
  · cases h

/-- Settles O2: `decode_encode`, one match pattern an operation. -/
theorem decodingAnEncodingGivesTheOperation : Obligations.DecodingAnEncodingGivesTheOperation :=
  fun _ h => decode_encode h

/-- Settles O3: the operands are fields of the word, and a word is its fields. -/
theorem encodingADecodingGivesTheWord : Obligations.EncodingADecodingGivesTheWord :=
  fun _ _ h => wellFormed_and_encode_of_decode h

/-- Settles O4: each word is built from its fields, so the equation of its match pattern applies. -/
theorem sampleWordsDecode : Obligations.SampleWordsDecode :=
  ⟨decode_mkWord_keywr 0 0xC5, decode_mkWord_setwr 0x02, decode_mkWord_potwr 1 0x55, decode_mkWord_scan,
    decode_mkWord_tick, decode_mkWord_rdreg 0x15, decode_mkWord_von 0x26, decode_mkWord_voff 0x26,
    decode_mkWord_pshift 0xF4, decode_mkWord_potclr, decode_mkWord_sertx 0x90, decode_mkWord_advance⟩

end Sys2Proof
end

section
/-! What each operation answers (R120 to R132, R160 to R166, R192 to R200, R240), and the registers that no operation but a
host command writes. -/

namespace Sys2Proof.Machine

theorem exec_keywr (g : Nat) (v : Byte) (s : State) : exec (.keywr g v) s = execKeywr g v s := rfl
theorem exec_potwr (c : Nat) (v : Byte) (s : State) : exec (.potwr c v) s = execPotwr c v s := rfl
theorem exec_rdreg (r : Nat) (s : State) : exec (.rdreg r) s = execRdreg r s := rfl
theorem exec_setwr (v : Byte) (s : State) : exec (.setwr v) s = .next (s.setSetcur v) := rfl
theorem exec_scan (s : State) : exec .scan s = .next (s.setScanq (cycleList s)) := rfl
theorem exec_voff (n : Nat) (s : State) : exec (.voff n) s = .next (s.setVoices (voicesOff n s.voices)) := rfl
theorem exec_pshift (d : Int) (s : State) : exec (.pshift d) s = .next (s.setPitch0 (shiftPitch s.cfg s.pitch0 d)) := rfl
theorem exec_potclr (s : State) : exec .potclr s = .next (s.setPotchg 0) := rfl
theorem exec_advance (s : State) : exec .advance s = .next ((s.setKeyprev s.keycur).setSetprev s.setcur) := rfl

theorem exec_sertx (b : Byte) (s : State) :
    exec (.sertx b) s =
      .next ((s.setSerout (s.serout ++ [b])).setLaststatus (if b.getLsbD 7 then b else s.laststatus)) :=
  congrArg _ (noteStatus_emit b s)

theorem exec_keywr_of_lt {g : Nat} {s : State} (h : g < s.cfg.groups) (v : Byte) :
    exec (.keywr g v) s = .next (s.setKeycur (s.keycur.set g (keyBits v))) := by
  rw [exec_keywr, execKeywr, if_neg (Nat.not_le.mpr h)]

theorem exec_keywr_of_le {g : Nat} {s : State} (h : s.cfg.groups ≤ g) (v : Byte) :
    exec (.keywr g v) s = .next (raiseCmdError .indexRange s) := by
  rw [exec_keywr, execKeywr, if_pos h]

theorem exec_potwr_of_le {c : Nat} (h : 2 ≤ c) (v : Byte) (s : State) :
    exec (.potwr c v) s = .next (raiseCmdError .indexRange s) := by
  rw [exec_potwr, execPotwr, if_pos h]

/-- An accepted POTWR, by whether its channel is enabled (R126). -/
theorem exec_potwr_of_lt {c : Nat} (h : c < 2) (v : Byte) (s : State) :
    exec (.potwr c v) s =
      if s.cfg.channelEnabled c then .next ((s.setPotval c v).raisePotFlag c) else .next s := by
  rw [exec_potwr, execPotwr, if_neg (Nat.not_le.mpr h)]

@[simp] theorem channelEnabled_zero (c : Config) : c.channelEnabled 0 = c.vibratoEn := by simp [Config.channelEnabled]

@[simp] theorem channelEnabled_one (c : Config) : c.channelEnabled 1 = c.tremoloEn := by simp [Config.channelEnabled]

theorem exec_potwr_zero (v : Byte) (s : State) :
    exec (.potwr 0 v) s =
      if s.cfg.vibratoEn then .next ((s.setPotval0 v).setPotchg (s.potchg ||| 0b01#2)) else .next s := by
  rw [exec_potwr_of_lt (by decide), channelEnabled_zero]
  rfl

theorem exec_potwr_one (v : Byte) (s : State) :
    exec (.potwr 1 v) s =
      if s.cfg.tremoloEn then .next ((s.setPotval1 v).setPotchg (s.potchg ||| 0b10#2)) else .next s := by
  rw [exec_potwr_of_lt (by decide), channelEnabled_one]
  rfl

theorem exec_rdreg_of_some {r : Nat} {s : State} {reg : Reg} (h : regOf s.cfg r = some reg) :
    exec (.rdreg r) s = .next (s.setRdata (s.readReg reg)) := by
  rw [exec_rdreg, execRdreg, h]

theorem exec_rdreg_of_none {r : Nat} {s : State} (h : regOf s.cfg r = none) :
    exec (.rdreg r) s = .next (raiseCmdError .indexRange s) := by
  rw [exec_rdreg, execRdreg, h]

theorem execTick_of_synth {s : State} (hm : s.mode = .synth) : execTick s = .next (synthTick s) := by
  rw [execTick, hm]

/-- The error action in the statements' words (R301). -/
theorem raiseCmdError_eq_firstCauseRecorded (c : Cause) (s : State) :
    raiseCmdError c s = firstCauseRecorded (causeCode c) s := rfl

/-- What a host command that answers `t` did (R120 to R132), said once. -/
inductive HostDid (s t : State) : Instr → Prop where
  /-- The index is out of range (R98): the command is refused. -/
  | refused {i : Instr} (ht : t = raiseCmdError .indexRange s) (hi : ∀ v, i ≠ .setwr v) (hs : i ≠ .scan) :
      HostDid s t i
  | keys (g : Nat) (v : Byte) (hg : g < s.cfg.groups) (ht : t = s.setKeycur (s.keycur.set g (keyBits v))) :
      HostDid s t (.keywr g v)
  | settings (v : Byte) (ht : t = s.setSetcur v) : HostDid s t (.setwr v)
  /-- POTWR on a disabled channel. -/
  | ignored (c : Nat) (v : Byte) (ht : t = s) : HostDid s t (.potwr c v)
  | vibrato (v : Byte) (he : s.cfg.vibratoEn = true) (ht : t = (s.setPotval0 v).setPotchg (s.potchg ||| 0b01#2)) :
      HostDid s t (.potwr 0 v)
  | tremolo (v : Byte) (he : s.cfg.tremoloEn = true) (ht : t = (s.setPotval1 v).setPotchg (s.potchg ||| 0b10#2)) :
      HostDid s t (.potwr 1 v)
  | scan (ht : t = s.setScanq (cycleList s)) : HostDid s t .scan
  | read (r : Nat) (reg : Reg) (ht : t = s.setRdata (s.readReg reg)) : HostDid s t (.rdreg r)

section
variable {s t : State}

theorem host_did_potwr {c : Nat} {v : Byte} (h : exec (.potwr c v) s = .next t) : HostDid s t (.potwr c v) := by
  match c with
  | 0 =>
    rw [exec_potwr_zero] at h
    split at h <;> cases h
    · exact .vibrato v ‹_› rfl
    · exact .ignored 0 v rfl
  | 1 =>
    rw [exec_potwr_one] at h
    split at h <;> cases h
    · exact .tremolo v ‹_› rfl
    · exact .ignored 1 v rfl
  | c + 2 =>
    rw [exec_potwr_of_le (by omega)] at h
    cases h
    exact .refused rfl (by simp) (by simp)

theorem host_did {i : Instr} (hp : i.path = .host) (h : exec i s = .next t) : HostDid s t i := by
  cases i with
  | keywr g v =>
    rcases Nat.lt_or_ge g s.cfg.groups with hg | hg
    · rw [exec_keywr_of_lt hg] at h
      cases h
      exact .keys g v hg rfl
    · rw [exec_keywr_of_le hg] at h
      cases h
      exact .refused rfl (by simp) (by simp)
  | setwr v => cases h; exact .settings v rfl
  | potwr c v => exact host_did_potwr h
  | scan => cases h; exact .scan rfl
  | rdreg r =>
    cases hr : regOf s.cfg r with
    | some reg =>
      rw [exec_rdreg_of_some hr] at h
      cases h
      exact .read r reg rfl
    | none =>
      rw [exec_rdreg_of_none hr] at h
      cases h
      exact .refused rfl (by simp) (by simp)
  | tick | von | voff | pshift | potclr | sertx | advance => cases hp

end

/-- `s` with the registers that TICK and the micro-operations write taken from `t`. -/
def State.withBackendRegsOf (s t : State) : State :=
  { s with keyprev := t.keyprev, setprev := t.setprev, potchg := t.potchg, pitch0 := t.pitch0, duty := t.duty,
           voices := t.voices, time := t.time, laststatus := t.laststatus, serout := t.serout }

/-- What a TICK did, by run mode (R200, R201). -/
theorem exec_tick_cases {s t : State} (h : exec .tick s = .next t) :
    (s.mode = .synth ∧ t = synthTick s) ∨ (s.mode = .midi ∧ t = s) := by
  rw [exec_tick] at h
  cases hm : s.mode with
  | synth => rw [execTick_of_synth hm] at h; cases h; exact .inl ⟨rfl, rfl⟩
  | midi => rw [execTick_of_midi hm] at h; cases h; exact .inr ⟨rfl, rfl⟩

/-- TICK leaves everything but DUTY, the voice table and T as it is. -/
theorem exec_tick_frame {s t : State} (h : exec .tick s = .next t) :
    t = { s with duty := t.duty, voices := t.voices, time := t.time } := by
  rcases exec_tick_cases h with ⟨-, rfl⟩ | ⟨-, rfl⟩ <;> rfl

/-- The frame of every operation that is no host command. -/
theorem exec_backend_frame {i : Instr} {s t : State} (hp : i.path ≠ .host) (h : exec i s = .next t) :
    t = s.withBackendRegsOf t := by
  cases i with
  | tick => rw [exec_tick_frame h]; rfl
  | sertx b => rw [exec_sertx] at h; cases h; rfl
  | von n | voff n | pshift d | potclr | advance => cases h; rfl
  | keywr | setwr | potwr | scan | rdreg => exact absurd rfl hp

theorem exec_micro_frame {i : Instr} {s t : State} (hp : i.path = .scanq) (h : exec i s = .next t) :
    t = s.withBackendRegsOf t :=
  exec_backend_frame (by rw [hp]; decide) h

/-- Every operation completes: no path of any meaning stops. -/
theorem exec_total (i : Instr) (s : State) : ∃ t, exec i s = .next t := by
  cases i with
  | keywr g v =>
    rcases Nat.lt_or_ge g s.cfg.groups with hg | hg
    · exact ⟨_, exec_keywr_of_lt hg v⟩
    · exact ⟨_, exec_keywr_of_le hg v⟩
  | potwr c v =>
    rcases Nat.lt_or_ge c 2 with hc | hc
    · rw [exec_potwr_of_lt hc]
      split <;> exact ⟨_, rfl⟩
    · exact ⟨_, exec_potwr_of_le hc v s⟩
  | rdreg r =>
    cases hr : regOf s.cfg r with
    | some reg => exact ⟨_, exec_rdreg_of_some hr⟩
    | none => exact ⟨_, exec_rdreg_of_none hr⟩
  | tick =>
    cases hm : s.mode with
    | synth => exact ⟨_, execTick_of_synth hm⟩
    | midi => exact ⟨_, execTick_of_midi hm⟩
  | setwr | scan | von | voff | pshift | potclr | sertx | advance => exact ⟨_, rfl⟩

end Sys2Proof.Machine
end

section
/-! The voice table (R44, R45, R192, R195, R200): the notes that sound after one slot is replaced, and the soundness of the
table after VON, VOFF and TICK. -/

namespace Sys2Proof.Machine

theorem mem_soundingNotes {vs : List Voice} {n : Nat} :
    n ∈ soundingNotes vs ↔ ∃ v ∈ vs, v.valid = true ∧ v.note.toNat = n := by
  simp [soundingNotes, and_assoc]

@[simp] theorem soundingNotes_append (as bs : List Voice) :
    soundingNotes (as ++ bs) = soundingNotes as ++ soundingNotes bs := by
  simp [soundingNotes]

theorem soundingNotes_cons_of_valid {v : Voice} (h : v.valid = true) (vs : List Voice) :
    soundingNotes (v :: vs) = v.note.toNat :: soundingNotes vs := by
  simp [soundingNotes, h]

theorem soundingNotes_cons_of_idle {v : Voice} (h : v.valid = false) (vs : List Voice) :
    soundingNotes (v :: vs) = soundingNotes vs := by
  simp [soundingNotes, h]

theorem soundingNotes_length (vs : List Voice) : (soundingNotes vs).length = vs.countP (fun v => v.valid) := by
  rw [soundingNotes, List.length_map, List.countP_eq_length_filter]

/-- The table around slot `i`, before and after the slot is replaced. -/
theorem exists_split_of_getElem? {vs : List Voice} {i : Nat} {u : Voice} (h : vs[i]? = some u) (w : Voice) :
    ∃ as bs, vs = as ++ u :: bs ∧ vs.set i w = as ++ w :: bs := by
  obtain ⟨hi, rfl⟩ := List.getElem?_eq_some_iff.mp h
  obtain ⟨as, bs, hvs, -, hset⟩ := List.exists_of_set (a' := w) hi
  exact ⟨as, bs, hvs, hset⟩

/-- A new voice in a free slot adds its note and no other. -/
theorem soundingNotes_set_valid {vs : List Voice} {i : Nat} {u w : Voice} (h : vs[i]? = some u) (hu : u.valid = false)
    (hw : w.valid = true) : (soundingNotes (vs.set i w)).Perm (w.note.toNat :: soundingNotes vs) := by
  obtain ⟨as, bs, hvs, hset⟩ := exists_split_of_getElem? h w
  rw [hset, hvs, soundingNotes_append, soundingNotes_append, soundingNotes_cons_of_valid hw,
    soundingNotes_cons_of_idle hu]
  exact List.perm_middle

/-- Emptying a slot adds no note. -/
theorem soundingNotes_set_idle {vs : List Voice} {i : Nat} {u : Voice} (h : vs[i]? = some u) :
    (soundingNotes (vs.set i Voice.idle)).Sublist (soundingNotes vs) := by
  obtain ⟨as, bs, hvs, hset⟩ := exists_split_of_getElem? h Voice.idle
  rw [hset, hvs, soundingNotes_append, soundingNotes_append, soundingNotes_cons_of_idle rfl]
  refine List.Sublist.append_left ?_ _
  cases hu : u.valid with
  | true => rw [soundingNotes_cons_of_valid hu]; exact List.sublist_cons_self _ _
  | false => rw [soundingNotes_cons_of_idle hu]

@[simp] theorem soundingNotes_map_stepPhase (vs : List Voice) : soundingNotes (vs.map stepPhase) = soundingNotes vs := by
  simp [soundingNotes, List.filter_map, Function.comp_def]

theorem Voice.ok_idle (c : Config) : Voice.ok c Voice.idle := ⟨Bool.noConfusion, fun _ => rfl⟩

/-- A sounding slot's period is an entry of the ROM, so at least 2 (R18, R45). -/
theorem Voice.ok.two_le_period {c : Config} (hc : WellFormedFacts c) {v : Voice} (h : Voice.ok c v)
    (hv : v.valid = true) : 2 ≤ v.period.toNat :=
  hc.romLo _ (List.mem_of_getElem? (h.1 hv).1)

theorem Voice.ok.phase_lt {c : Config} {v : Voice} (h : Voice.ok c v) (hv : v.valid = true) :
    v.phase.toNat < v.period.toNat :=
  (h.1 hv).2

theorem Voice.ok.stepPhase {c : Config} {v : Voice} (h : Voice.ok c v) : Voice.ok c (stepPhase v) := by
  cases hv : v.valid with
  | false => rw [stepPhase_of_idle hv]; exact h
  | true =>
    have hpos : 0 < v.period.toNat := Nat.lt_of_le_of_lt (Nat.zero_le _) (h.phase_lt hv)
    refine ⟨fun _ => ⟨?_, ?_⟩, fun hf => ?_⟩
    · rw [stepPhase_note, stepPhase_period]
      exact (h.1 hv).1
    · rw [stepPhase_phase hv hpos, stepPhase_period]
      exact Nat.mod_lt _ hpos
    · rw [stepPhase_valid, hv] at hf
      cases hf

/-- The voice VON creates for a note of the ROM is as R45 says. -/
theorem newVoice_ok {c : Config} (hc : WellFormedFacts c) (t : BitVec 32) {n : Nat} (hn : n < c.noteNumber) :
    Voice.ok c (newVoice c t n) := by
  obtain ⟨p, hp, h2⟩ := hc.rom hn
  have hn256 : n < 256 := by have := hc.notesHi; omega
  obtain ⟨hper, hph⟩ := newVoice_period_phase (t := t) hp (by omega)
  refine ⟨fun _ => ⟨?_, ?_⟩, Bool.noConfusion⟩
  · rw [newVoice_note c t hn256, hper, hp]
  · rw [hph, hper]
    exact Nat.mod_lt _ (by omega)

theorem VoiceTableOk.set {c : Config} {vs : List Voice} (h : VoiceTableOk c vs) {i : Nat} {w : Voice}
    (hw : Voice.ok c w) (hn : (soundingNotes (vs.set i w)).Nodup) : VoiceTableOk c (vs.set i w) where
  size := by rw [List.length_set, h.size]
  slots v hv := by
    rcases List.mem_or_eq_of_mem_set hv with hv | rfl
    · exact h.slots v hv
    · exact hw
  distinct := hn

theorem VoiceTableOk.voicesOn {c : Config} (hc : WellFormedFacts c) {vs : List Voice} (h : VoiceTableOk c vs)
    (t : BitVec 32) {n : Nat} (hn : n < c.noteNumber) : VoiceTableOk c (voicesOn c t n vs) := by
  rcases voicesOn_cases c t n vs with ⟨-, he⟩ | ⟨-, -, he⟩ | ⟨hno, i, u, hu, hfree, -, he⟩ <;> rw [he]
  · exact h
  · exact h
  · refine h.set (newVoice_ok hc t hn) ?_
    rw [(soundingNotes_set_valid hu hfree (newVoice_valid c t n)).nodup_iff,
      newVoice_note c t (by have := hc.notesHi; omega)]
    refine List.nodup_cons.mpr ⟨fun hmem => ?_, h.distinct⟩
    obtain ⟨v, hv, hval, hnote⟩ := mem_soundingNotes.mp hmem
    exact hno v hv hval hnote

theorem VoiceTableOk.voicesOff {c : Config} {vs : List Voice} (h : VoiceTableOk c vs) (n : Nat) :
    VoiceTableOk c (voicesOff n vs) := by
  rcases voicesOff_cases n vs with ⟨-, he⟩ | ⟨i, u, hu, -, -, he⟩ <;> rw [he]
  · exact h
  · exact h.set (Voice.ok_idle c) (h.distinct.sublist (soundingNotes_set_idle hu))

theorem VoiceTableOk.map_stepPhase {c : Config} {vs : List Voice} (h : VoiceTableOk c vs) :
    VoiceTableOk c (vs.map stepPhase) where
  size := by rw [List.length_map, h.size]
  slots v hv := by
    obtain ⟨u, hu, rfl⟩ := List.mem_map.mp hv
    exact (h.slots u hu).stepPhase
  distinct := by rw [soundingNotes_map_stepPhase]; exact h.distinct

theorem VoiceTableOk.replicate_idle (c : Config) : VoiceTableOk c (List.replicate c.maxVoices Voice.idle) where
  size := List.length_replicate
  slots v hv := by rw [List.eq_of_mem_replicate hv]; exact Voice.ok_idle c
  distinct := by simp [soundingNotes, Voice.idle]

end Sys2Proof.Machine
end

section
/-! The scan queue (R41, R95, R170, R360): the operations SCAN loads, their number, and the queue as it is loaded
and drained. -/

namespace Sys2Proof.Machine

theorem State.Inv.facts {s : State} (h : s.Inv) : WellFormedFacts s.cfg := wellFormed_facts h.cfg

/-- R155: MAX_PITCH_0 leaves room for every key of the keyboard. -/
theorem noteIndex_lt {s : State} (h : s.Inv) {kind : KeyKind} {k : Nat}
    (he : (kind, k) ∈ keyEvents s.cfg s.keycur s.keyprev) : s.pitch0.toNat + k < s.cfg.noteNumber := by
  have hk := (mem_keyEvents.mp he).1
  have hp := h.pitch0
  have hadd := h.facts.maxPitch0_add
  omega

theorem keyEvents_length_le (c : Config) (C P : List Byte) : (keyEvents c C P).length ≤ c.keysNumber :=
  (List.length_filterMap_le _ _).trans (Nat.le_of_eq List.length_range)

theorem length_flatMap_pair {α β : Type} (f g : α → β) (as : List α) :
    (as.flatMap fun a => [f a, g a]).length = 2 * as.length := by
  simp [List.length_flatMap, Nat.mul_comm]

/-- At most one status byte and a pair an event (R233, R234). -/
theorem noteMsgBytes_length_le (s : State) (es : List (KeyKind × Nat)) :
    (noteMsgBytes s es).length ≤ 1 + 2 * es.length := by
  have hq := onQueue_length_add_offQueue_length es
  have hst := statusPart_length s
  unfold noteMsgBytes
  split
  · exact Nat.zero_le _
  · rw [List.length_append, List.length_append, length_flatMap_pair, length_flatMap_pair]
    omega

theorem backendOps_length_le_midi {s : State} (hm : s.mode = .midi) :
    (backendOps s (keyEvents s.cfg s.keycur s.keyprev)).length ≤ 2 * s.cfg.keysNumber + 7 := by
  have hk := keyEvents_length_le s.cfg s.keycur s.keyprev
  have hn := noteMsgBytes_length_le s (keyEvents s.cfg s.keycur s.keyprev)
  have hpot := potMsgBytes_length s
  rw [backendOps, hm, midiOps, List.length_map, List.length_append]
  omega

theorem backendOps_length_le_synth {s : State} (hm : s.mode = .synth) :
    (backendOps s (keyEvents s.cfg s.keycur s.keyprev)).length ≤ s.cfg.keysNumber := by
  rw [backendOps, hm, synthOps, List.length_map]
  exact keyEvents_length_le s.cfg s.keycur s.keyprev

/-- Behind the backend's words come at most four PSHIFTs, POTCLR and ADVANCE. -/
theorem cycleList_length_le (s : State) :
    (cycleList s).length ≤ (backendOps s (keyEvents s.cfg s.keycur s.keyprev)).length + 6 := by
  have hset := settingsEdges_length s.setcur s.setprev
  rw [cycleList, cycleOps, List.length_map, List.length_append, List.length_append, List.length_map]
  simp only [List.length_cons, List.length_nil]
  omega

theorem cycleList_length_le_scanqBound (s : State) : (cycleList s).length ≤ scanqBound s.cfg s.mode := by
  have h := cycleList_length_le s
  cases hm : s.mode with
  | midi => exact h.trans (Nat.add_le_add_right (backendOps_length_le_midi hm) 6)
  | synth => exact h.trans (Nat.add_le_add_right (backendOps_length_le_synth hm) 6)

/-- The operations of a cycle in front of its ADVANCE. -/
def opsBeforeAdvance (s : State) : List Instr :=
  backendOps s (keyEvents s.cfg s.keycur s.keyprev) ++ (settingsEdges s.setcur s.setprev).map .pshift ++ [.potclr]

theorem cycleOps_eq_before_advance (s : State) : cycleOps s = opsBeforeAdvance s ++ [.advance] := by
  simp [cycleOps, opsBeforeAdvance]

/-- The operations a backend puts into the list (R171, R236). -/
theorem mem_backendOps {s : State} {i : Instr} (h : i ∈ backendOps s (keyEvents s.cfg s.keycur s.keyprev)) :
    (s.mode = .synth ∧ ∃ kind k, (kind, k) ∈ keyEvents s.cfg s.keycur s.keyprev ∧
      (i = .von (s.pitch0.toNat + k) ∨ i = .voff (s.pitch0.toNat + k))) ∨
    (s.mode = .midi ∧ ∃ b, i = .sertx b) := by
  unfold backendOps at h
  split at h
  · obtain ⟨⟨kind, k⟩, he, rfl⟩ := List.mem_map.mp h
    refine .inl ⟨‹_›, kind, k, he, ?_⟩
    cases kind with
    | press => exact .inl rfl
    | release => exact .inr rfl
  · obtain ⟨b, -, rfl⟩ := List.mem_map.mp h
    exact .inr ⟨‹_›, b, rfl⟩

/-- What stands in front of a cycle's ADVANCE (R170). -/
theorem mem_opsBeforeAdvance {s : State} {i : Instr} :
    i ∈ opsBeforeAdvance s ↔ i ∈ backendOps s (keyEvents s.cfg s.keycur s.keyprev) ∨
      (∃ d ∈ settingsEdges s.setcur s.setprev, i = .pshift d) ∨ i = .potclr := by
  simp [opsBeforeAdvance, eq_comm]

theorem generated_and_ne_advance_of_mem {s : State} (hs : s.Inv) {i : Instr} (h : i ∈ opsBeforeAdvance s) :
    i.generated s.cfg s.mode = true ∧ i ≠ .advance := by
  rcases mem_opsBeforeAdvance.mp h with hb | ⟨d, hd, rfl⟩ | rfl
  · rcases mem_backendOps hb with ⟨hm, kind, k, he, rfl | rfl⟩ | ⟨hm, b, rfl⟩
    · simp [Instr.generated, hm, noteIndex_lt hs he]
    · simp [Instr.generated, hm, noteIndex_lt hs he]
    · simp [Instr.generated, hm]
  · simpa [Instr.generated, or_assoc] using mem_settingsEdges hd
  · exact ⟨rfl, by decide⟩

end Sys2Proof.Machine

namespace Sys2Proof

open Sys2Proof.Machine

theorem generated_path {c : Config} {m : RunMode} {i : Instr} (h : i.generated c m = true) : i.path = .scanq := by
  cases i with
  | von | voff | pshift | potclr | sertx | advance => rfl
  | keywr | setwr | potwr | scan | tick | rdreg => cases h

/-- The field values SCAN gives fit their fields (R95, R90). -/
theorem generated_wellFormed {c : Config} (hc : WellFormedFacts c) {m : RunMode} {i : Instr}
    (h : i.generated c m = true) : i.wellFormed = true := by
  have hnotes := hc.notesHi
  cases i with
  | von n | voff n =>
    have hn : m = .synth ∧ n < c.noteNumber := by simpa [Instr.generated] using h
    exact decide_eq_true (by omega)
  | pshift d =>
    have hd : ((d = -12 ∨ d = 12) ∨ d = -1) ∨ d = 1 := by simpa [Instr.generated] using h
    simp only [Instr.wellFormed, Bool.and_eq_true, decide_eq_true_eq]
    omega
  | potclr | sertx | advance => rfl
  | keywr | setwr | potwr | scan | tick | rdreg => cases h

theorem decodeMicro_encode_generated {c : Config} (hc : WellFormedFacts c) {m : RunMode} {i : Instr}
    (h : i.generated c m = true) : decodeMicro (encode i) = some i :=
  decodeMicro_encode (generated_wellFormed hc h) (generated_path h)

end Sys2Proof

namespace Sys2Proof.Machine

theorem ScanqOk.nil (c : Config) (m : RunMode) : ScanqOk c m [] := ⟨by simp, .inl rfl, Nat.zero_le _⟩

/-- The encoding of ADVANCE stands for ADVANCE alone. -/
theorem encode_ne_advance {c : Config} (hc : WellFormedFacts c) {m : RunMode} {i : Instr}
    (h : i.generated c m = true) (hne : i ≠ .advance) : encode i ≠ encode .advance := by
  intro he
  have hi := decodeMicro_encode_generated hc h
  rw [he, decodeMicro_encode_generated hc (m := m) (i := .advance) rfl] at hi
  exact hne (Option.some.inj hi).symm

/-- The list SCAN loads is a scan queue as R41, R95 and R360 say. -/
theorem cycleList_scanqOk {s : State} (hs : s.Inv) : ScanqOk s.cfg s.mode (cycleList s) where
  words w hw := by
    obtain ⟨i, hi, rfl⟩ := List.mem_map.mp hw
    have hg : i.generated s.cfg s.mode = true := by
      rw [cycleOps_eq_before_advance, List.mem_append, List.mem_singleton] at hi
      rcases hi with hi | rfl
      · exact (generated_and_ne_advance_of_mem hs hi).1
      · rfl
    rw [decodeMicro_encode_generated hs.facts hg]
    exact hg
  ends := by
    have hbefore : ((opsBeforeAdvance s).map encode).count (encode .advance) = 0 := by
      rw [List.count_eq_zero, List.mem_map]
      rintro ⟨i, hi, he⟩
      obtain ⟨hg, hne⟩ := generated_and_ne_advance_of_mem hs hi
      exact encode_ne_advance hs.facts hg hne he
    rw [cycleList, cycleOps_eq_before_advance, List.map_append, List.count_append, hbefore]
    refine .inr ⟨List.getLast?_concat, ?_⟩
    rw [Nat.zero_add]
    exact List.count_singleton_self
  bounded := cycleList_length_le_scanqBound s

/-- Taking the head off a scan queue leaves a scan queue: the only ADVANCE is the last word (R160). -/
theorem ScanqOk.tail {c : Config} {m : RunMode} {w : Word} {rest : List Word} (h : ScanqOk c m (w :: rest)) :
    ScanqOk c m rest where
  words v hv := h.words v (List.mem_cons_of_mem w hv)
  ends := by
    rcases List.eq_nil_or_concat' rest with rfl | ⟨init, l, rfl⟩
    · exact .inl rfl
    · rcases h.ends with h0 | ⟨hlast, hcount⟩
      · cases h0
      · have hl : l = encode .advance := by
          rw [← List.cons_append, List.getLast?_concat] at hlast
          exact Option.some.inj hlast
        subst hl
        refine .inr ⟨List.getLast?_concat, ?_⟩
        rw [List.count_cons] at hcount
        have hpos : 0 < (init ++ [encode .advance]).count (encode .advance) :=
          List.count_pos_iff.mpr (by simp)
        omega
  bounded := (Nat.le_succ _).trans h.bounded

/-- The word the SCAN agent takes from a scan queue is a micro-op that SCAN generated. -/
theorem ScanqOk.head {c : Config} {m : RunMode} {w : Word} {rest : List Word} (h : ScanqOk c m (w :: rest)) :
    ∃ i, decodeMicro w = some i ∧ i.generated c m = true := by
  have hw := h.words w List.mem_cons_self
  cases hd : decodeMicro w with
  | none => rw [hd] at hw; cases hw
  | some i => rw [hd] at hw; exact ⟨i, rfl, hw⟩

end Sys2Proof.Machine
end

section
/-! The invariant (R33 to R48, R360): every operation keeps it on the path it comes on, so every step does. -/

namespace Sys2Proof

theorem WellFormedFacts.maxPitch0_lt {c : Config} (h : WellFormedFacts c) : c.maxPitch0 < 256 := by
  have := h.maxPitch0_add
  have := h.notesHi
  omega

theorem WellFormedFacts.pwmTop_lt {c : Config} (h : WellFormedFacts c) : c.pwmTop < 65536 :=
  Nat.lt_succ_of_le h.topHi

theorem WellFormedFacts.pitch0Reset_toNat {c : Config} (h : WellFormedFacts c) :
    (BitVec.ofNat 8 c.pitch0Reset).toNat = c.pitch0Reset := by
  have := h.pitch
  have := h.maxPitch0_lt
  exact toNat_ofNat_byte (by omega)

end Sys2Proof

namespace Sys2Proof.Machine

theorem State.Inv.setEnv {s : State} (h : s.Inv) (e : Env) : (s.setEnv e).Inv := { h with }

theorem State.Inv.setScanq {s : State} (h : s.Inv) {q : List Word} (hq : ScanqOk s.cfg s.mode q) :
    (s.setScanq q).Inv := { h with scanq := hq }

theorem State.Inv.setRdata {s : State} (h : s.Inv) (v : BitVec 16) : (s.setRdata v).Inv := { h with }

theorem State.Inv.setSetcur {s : State} (h : s.Inv) (v : Byte) : (s.setSetcur v).Inv := { h with }

theorem keyBits_lt (v : Byte) : (keyBits v).toNat < 64 := by
  have := (v.extractLsb' 0 6).isLt
  rw [keyBits, BitVec.toNat_setWidth]
  omega

theorem State.Inv.setKey {s : State} (h : s.Inv) (g : Nat) (v : Byte) :
    (s.setKeycur (s.keycur.set g (keyBits v))).Inv :=
  { h with
    keycur := {
      size := List.length_set.trans h.keycur.size
      bits := fun b hb => by
        rcases List.mem_or_eq_of_mem_set hb with hb | rfl
        · exact h.keycur.bits b hb
        · exact keyBits_lt v } }

/-- A recorded cause is 1 to 4, and CMDERR is set with it (R42, R302). -/
theorem State.Inv.raiseCmdError {s : State} (h : s.Inv) (c : Cause) : (raiseCmdError c s).Inv := by
  rcases raiseCmdError_cases c s with ⟨-, he⟩ | ⟨-, he⟩ <;> rw [he]
  · exact h
  · have herr : ErrorOk ((s.setCmderr true).setErrcause (causeCode c)) := by cases c <;> simp [ErrorOk, causeCode]
    exact { h with errors := herr }

/-- Only an enabled channel takes a reading and sets its flag (R126). -/
theorem State.Inv.setVibrato {s : State} (h : s.Inv) (he : s.cfg.vibratoEn = true) (v : Byte) :
    ((s.setPotval0 v).setPotchg (s.potchg ||| 0b01#2)).Inv := by
  have hpots : PotsOk ((s.setPotval0 v).setPotchg (s.potchg ||| 0b01#2)) :=
    ⟨fun hoff => (nomatch he.symm.trans hoff), fun hoff => by simpa [State.potFlag] using h.pots.2 hoff⟩
  exact { h with pots := hpots }

theorem State.Inv.setTremolo {s : State} (h : s.Inv) (he : s.cfg.tremoloEn = true) (v : Byte) :
    ((s.setPotval1 v).setPotchg (s.potchg ||| 0b10#2)).Inv := by
  have hpots : PotsOk ((s.setPotval1 v).setPotchg (s.potchg ||| 0b10#2)) :=
    ⟨fun hoff => by simpa [State.potFlag] using h.pots.1 hoff, fun hoff => (nomatch he.symm.trans hoff)⟩
  exact { h with pots := hpots }

theorem inv_of_hostDid {s t : State} (h : s.Inv) {i : Instr} (hd : HostDid s t i) : t.Inv := by
  cases hd with
  | refused ht => subst ht; exact h.raiseCmdError _
  | keys g v hg ht => subst ht; exact h.setKey g v
  | settings v ht => subst ht; exact h.setSetcur v
  | ignored c v ht => subst ht; exact h
  | vibrato v he ht => subst ht; exact h.setVibrato he v
  | tremolo v he ht => subst ht; exact h.setTremolo he v
  | scan ht => subst ht; exact h.setScanq (cycleList_scanqOk h)
  | read r reg ht => subst ht; exact h.setRdata _

/-- R162: the clamp keeps PITCH0 in its range, from wherever it comes. -/
theorem shiftPitch_le {c : Config} (h : c.maxPitch0 < 256) (p : BitVec 8) (d : Int) :
    (shiftPitch c p d).toNat ≤ c.maxPitch0 := by
  have he := shiftPitch_toNat h p d
  unfold clampInt at he
  omega

/-- In Synth mode the voice table may be any sound one. -/
theorem State.Inv.setVoices {s : State} (h : s.Inv) (hm : s.mode = .synth) {vs : List Voice}
    (hvs : VoiceTableOk s.cfg vs) : (s.setVoices vs).Inv := by
  have hidle : OtherBackendIdle (s.setVoices vs) := ⟨fun hf => (nomatch hm.symm.trans hf), h.otherBackend.2⟩
  exact { h with voices := hvs, otherBackend := hidle }

/-- In MIDI mode any byte may be sent (R240). -/
theorem State.Inv.setSerial {s : State} (h : s.Inv) (hm : s.mode = .midi) (out : List Byte) (b : Byte) :
    ((s.setSerout out).setLaststatus (if b.getLsbD 7 then b else s.laststatus)).Inv := by
  have hstatus : (if b.getLsbD 7 then b else s.laststatus) = 0 ∨
      (if b.getLsbD 7 then b else s.laststatus).getLsbD 7 = true := by
    split
    · exact .inr ‹_›
    · exact h.laststatus
  have hidle : OtherBackendIdle ((s.setSerout out).setLaststatus (if b.getLsbD 7 then b else s.laststatus)) :=
    ⟨h.otherBackend.1, fun hf => (nomatch hm.symm.trans hf)⟩
  exact { h with laststatus := hstatus, otherBackend := hidle }

theorem sampleDuty_toNat {c : Config} (h : c.pwmTop < 65536) (vs : List Voice) :
    (sampleDuty c vs).toNat = min (c.baseline + sampleSum c vs) c.pwmTop := by
  rw [sampleDuty, BitVec.toNat_ofNat]
  omega

theorem State.Inv.synthTick {s : State} (h : s.Inv) (hm : s.mode = .synth) : (synthTick s).Inv := by
  have hduty : (sampleDuty s.cfg s.voices).toNat ≤ s.cfg.pwmTop := by
    rw [sampleDuty_toNat h.facts.pwmTop_lt]
    exact Nat.min_le_right _ _
  have hidle : OtherBackendIdle (Sys2Proof.Machine.synthTick s) :=
    ⟨fun hf => (nomatch hm.symm.trans hf), h.otherBackend.2⟩
  exact { h with duty := hduty, voices := h.voices.map_stepPhase, otherBackend := hidle }

/-- Every micro-operation that SCAN generates keeps a state good. -/
theorem inv_of_generated {s t : State} (h : s.Inv) {i : Instr} (hg : i.generated s.cfg s.mode = true)
    (hx : exec i s = .next t) : t.Inv := by
  cases i with
  | von n =>
    obtain ⟨hm, hn⟩ : s.mode = .synth ∧ n < s.cfg.noteNumber := by simpa [Instr.generated] using hg
    cases hx
    exact h.setVoices hm (h.voices.voicesOn h.facts s.time hn)
  | voff n =>
    obtain ⟨hm, -⟩ : s.mode = .synth ∧ n < s.cfg.noteNumber := by simpa [Instr.generated] using hg
    cases hx
    exact h.setVoices hm (h.voices.voicesOff n)
  | pshift d => cases hx; exact { h with pitch0 := shiftPitch_le h.facts.maxPitch0_lt s.pitch0 d }
  | potclr =>
    have hpots : PotsOk (s.setPotchg 0) :=
      ⟨fun hoff => ⟨(h.pots.1 hoff).1, BitVec.getLsbD_zero⟩, fun hoff => ⟨(h.pots.2 hoff).1, BitVec.getLsbD_zero⟩⟩
    cases hx
    exact { h with pots := hpots }
  | sertx b =>
    rw [exec_sertx] at hx
    cases hx
    exact h.setSerial (of_decide_eq_true hg) _ b
  | advance => cases hx; exact { h with keyprev := h.keycur }
  | keywr | setwr | potwr | scan | tick | rdreg => cases hg

theorem inv_of_tick {s t : State} (h : s.Inv) (hx : exec .tick s = .next t) : t.Inv := by
  rcases exec_tick_cases hx with ⟨hm, rfl⟩ | ⟨-, rfl⟩
  · exact h.synthTick hm
  · exact h

theorem SnapshotsOk.replicate_zero (c : Config) : SnapshotsOk c (List.replicate c.groups 0) where
  size := List.length_replicate
  bits b hb := by rw [List.eq_of_mem_replicate hb]; decide

/-- R52: the reset values of a well-formed configuration make a good state. -/
theorem resetWith_inv {c : Config} (hc : c.wellFormed = true) (m : RunMode) : (State.resetWith c m).Inv where
  cfg := hc
  keycur := .replicate_zero c
  keyprev := .replicate_zero c
  pitch0 := by
    have h := wellFormed_facts hc
    exact (Nat.le_of_eq h.pitch0Reset_toNat).trans h.pitch
  errors := ⟨Nat.zero_le _, by simp [State.resetWith]⟩
  pots := ⟨fun _ => ⟨rfl, BitVec.getLsbD_zero⟩, fun _ => ⟨rfl, BitVec.getLsbD_zero⟩⟩
  duty := Nat.zero_le _
  voices := .replicate_idle c
  laststatus := .inl rfl
  scanq := .nil c m
  otherBackend := ⟨fun _ => ⟨fun _ hv => List.eq_of_mem_replicate hv, rfl, rfl⟩, fun _ => rfl⟩

theorem resetBlock_inv {s : State} (hc : s.cfg.wellFormed = true) (m : RunMode) : (resetBlock m s).Inv :=
  { resetWith_inv hc m with }

theorem powerOn_eq_some {c : Config} {m : RunMode} {s : State} :
    powerOn c m = some s ↔ c.wellFormed = true ∧ s = State.resetWith c m := by
  unfold powerOn
  split
  · rw [Option.some.injEq, eq_comm, and_iff_right ‹_›]
  · exact ⟨fun h => (nomatch h), fun h => absurd h.1 ‹_›⟩

/-- The SCAN agent's step starts from a good state again, with a micro-operation that SCAN generated (R160). -/
theorem generated_of_head {s : State} (h : s.Inv) {w : Word} {rest : List Word} (hq : s.scanq = w :: rest) {i : Instr}
    (hd : decodeMicro w = some i) (e : Env) :
    i.generated s.cfg s.mode = true ∧ ((s.setEnv e).setScanq rest).Inv := by
  have hok : ScanqOk s.cfg s.mode (w :: rest) := hq ▸ h.scanq
  obtain ⟨j, hj, hg⟩ := hok.head
  obtain rfl : i = j := Option.some.inj (hd.symm.trans hj)
  exact ⟨hg, (h.setEnv e).setScanq hok.tail⟩

/-- Every step keeps a good state good, by what the step did. -/
theorem step_keeps_inv {s t : State} (h : s.Inv) (hstep : step s = .next t) : t.Inv := by
  obtain ⟨hc, hdid⟩ := step_did hstep
  cases hdid with
  | passed e _ ht => subst ht; exact h.setEnv e
  | reset e m _ ht => subst ht; exact resetBlock_inv (s := s.setEnv e) hc m
  | refusedWord e c _ _ ht => subst ht; exact (h.setEnv e).raiseCmdError c
  | hostCommand e i _ _ hp hx => exact inv_of_hostDid (h.setEnv e) (host_did hp hx)
  | microOp e w rest i _ _ hq hd hx =>
    obtain ⟨hg, hinv⟩ := generated_of_head h hq hd e
    exact inv_of_generated hinv hg hx
  | tick e _ _ hx => exact inv_of_tick (h.setEnv e) hx

/-- A property that every step of a machine keeps holds after every run of it. -/
theorem run_keeps {M : Host.Core} {P : M.State → Prop} (hstep : ∀ s t, P s → M.step s = .next t → P t) {k : Nat}
    {s t : M.State} (h : P s) (hrun : M.run k s = .next t) : P t := by
  induction k generalizing s with
  | zero => cases hrun; exact h
  | succ k ih =>
    rw [Host.Core.run] at hrun
    cases hs : M.step s with
    | next s' => rw [hs] at hrun; exact ih (hstep s s' h hs) hrun
    | fault r => rw [hs] at hrun; cases hrun
    | refused r => rw [hs] at hrun; cases hrun

theorem run_keeps_inv {s t : State} (h : s.Inv) {k : Nat} (hrun : Host.Core.run core k s = .next t) : t.Inv :=
  run_keeps (M := core) (P := State.Inv) (fun _ _ => step_keeps_inv) h hrun

end Sys2Proof.Machine

namespace Sys2Proof

open Sys2Proof.Machine

/-- Settles O53: `step_did` says what the step did, and each kind of step keeps the invariant. -/
theorem everyStepKeepsTheInvariant : Obligations.EveryStepKeepsTheInvariant :=
  fun _ _ h hstep => step_keeps_inv h hstep

/-- Settles O54: the reset values are good for every well-formed configuration, CFG-T among them. -/
theorem resetIsAGoodState : Obligations.ResetIsAGoodState := by
  refine ⟨resetWith_inv (by decide) .synth, fun c m s hs => ?_⟩
  obtain ⟨hc, rfl⟩ := powerOn_eq_some.mp hs
  exact resetWith_inv hc m

end Sys2Proof
end

section
/-! Listed turns and words (R21, R92, R98, R135, R160): what the coming step is when the environment lists its turn, and the
host port's checks by the op field of the word. -/

namespace Sys2Proof.Machine

section
variable {s : State} {ts : List Turn}

theorem fetch_host (h : s.env.turns = .host :: ts) : fetch s = fetchHost (turnUsed s ts) := by
  rw [fetch, takeTurn_listed h]
  rfl

theorem fetch_scan (h : s.env.turns = .scan :: ts) : fetch s = fetchScan (turnUsed s ts) := by
  rw [fetch, takeTurn_listed h]
  rfl

theorem fetch_timer (h : s.env.turns = .timer :: ts) : fetch s = (.run .tick, turnUsed s ts) := by
  rw [fetch, takeTurn_listed h]
  rfl

theorem fetch_reset {m : RunMode} (h : s.env.turns = .reset m :: ts) : fetch s = (.reset m, turnUsed s ts) := by
  rw [fetch, takeTurn_listed h]
  rfl

theorem fetchHost_held (h : s.scanq ≠ []) : fetchHost s = (.idle, s) := by
  rw [fetchHost, if_pos ((busy_eq_true_iff s).mpr h)]

/-- A listed host word is accepted with SCANQ empty, and runs when the port's checks pass. -/
theorem fetchHost_accepts {w : Word} {ws : List Word} {i : Instr} (hq : s.scanq = []) (hw : s.env.words = w :: ws)
    (hd : decodeHost w = .ok i) : fetchHost s = (.run i, s.setEnv { s.env with words := ws }) := by
  simp [fetchHost, (busy_eq_false_iff s).mpr hq, takeHostWord_listed hw, hd]

theorem fetchHost_refuses {w : Word} {ws : List Word} {c : Cause} (hq : s.scanq = []) (hw : s.env.words = w :: ws)
    (hd : decodeHost w = .error c) : fetchHost s = (.cmdError c, s.setEnv { s.env with words := ws }) := by
  simp [fetchHost, (busy_eq_false_iff s).mpr hq, takeHostWord_listed hw, hd]

theorem fetchScan_nil (h : s.scanq = []) : fetchScan s = (.idle, s) := by
  rw [fetchScan, h]

theorem fetchScan_cons {w : Word} {rest : List Word} {i : Instr} (h : s.scanq = w :: rest) (hd : decodeMicro w = some i) :
    fetchScan s = (.run i, s.setScanq rest) := by
  simp [fetchScan, h, hd]

/-! The whole step on a listed turn. -/

theorem step_host_accepts {w : Word} {ws : List Word} {i : Instr} (hc : s.cfg.wellFormed = true)
    (ht : s.env.turns = .host :: ts) (hw : s.env.words = w :: ws) (hq : s.scanq = []) (hd : decodeHost w = .ok i) :
    step s = exec i (wordUsed s ts ws) := by
  have hf : fetchHost (turnUsed s ts) = (.run i, wordUsed s ts ws) := fetchHost_accepts hq hw hd
  rw [step_of_wellFormed hc, fetch_host ht, hf, runAction]

theorem step_host_refuses {w : Word} {ws : List Word} {c : Cause} (hc : s.cfg.wellFormed = true)
    (ht : s.env.turns = .host :: ts) (hw : s.env.words = w :: ws) (hq : s.scanq = []) (hd : decodeHost w = .error c) :
    step s = .next (raiseCmdError c (wordUsed s ts ws)) := by
  have hf : fetchHost (turnUsed s ts) = (.cmdError c, wordUsed s ts ws) := fetchHost_refuses hq hw hd
  rw [step_of_wellFormed hc, fetch_host ht, hf, runAction]

theorem step_host_held (hc : s.cfg.wellFormed = true) (ht : s.env.turns = .host :: ts) (hq : s.scanq ≠ []) :
    step s = .next (turnUsed s ts) := by
  have hf : fetchHost (turnUsed s ts) = (.idle, turnUsed s ts) := fetchHost_held hq
  rw [step_of_wellFormed hc, fetch_host ht, hf, runAction]

theorem step_scan_takes_head {w : Word} {rest : List Word} {i : Instr} (hc : s.cfg.wellFormed = true)
    (ht : s.env.turns = .scan :: ts) (hq : s.scanq = w :: rest) (hd : decodeMicro w = some i) :
    step s = exec i { turnUsed s ts with scanq := rest } := by
  have hf : fetchScan (turnUsed s ts) = (.run i, { turnUsed s ts with scanq := rest }) := fetchScan_cons hq hd
  rw [step_of_wellFormed hc, fetch_scan ht, hf, runAction]

theorem step_scan_empty (hc : s.cfg.wellFormed = true) (ht : s.env.turns = .scan :: ts) (hq : s.scanq = []) :
    step s = .next (turnUsed s ts) := by
  have hf : fetchScan (turnUsed s ts) = (.idle, turnUsed s ts) := fetchScan_nil hq
  rw [step_of_wellFormed hc, fetch_scan ht, hf, runAction]

theorem step_timer (hc : s.cfg.wellFormed = true) (ht : s.env.turns = .timer :: ts) :
    step s = exec .tick (turnUsed s ts) := by
  rw [step_of_wellFormed hc, fetch_timer ht, runAction]

theorem step_reset {m : RunMode} (hc : s.cfg.wellFormed = true) (ht : s.env.turns = .reset m :: ts) :
    step s = .next (resetBlock m (turnUsed s ts)) := by
  rw [step_of_wellFormed hc, fetch_reset ht, runAction]

theorem takeTurn_unlisted (h : s.env.turns = []) :
    takeTurn s = (Config.freeTurn s.env.freeTurns, s.setEnv { s.env with freeTurns := s.env.freeTurns + 1 }) := by
  rw [takeTurn, h]

end

/-- The coming turn decides the step, whatever lists it. -/
theorem step_congr {s s' : State} (hcfg : s.cfg = s'.cfg) (h : takeTurn s = takeTurn s') : step s = step s' := by
  have hf : fetch s = fetch s' := by rw [fetch, fetch, h]
  rw [step, step, blockStep, blockStep, runTurn, runTurn, hcfg, hf]

theorem dataField_eq_ofNat (w : Word) : dataField w = BitVec.ofNat 8 (w.toNat % 256) := by
  rw [← dataField_toNat, BitVec.ofNat_toNat, BitVec.setWidth_eq]

end Sys2Proof.Machine

namespace Sys2Proof

open Sys2Proof.Machine

/-! The host port by op field, in the order of R98. -/

theorem reservedOp_iff (op : Nat) : reservedOp op = true ↔ op = 0x0 ∨ op = 0x7 ∨ op = 0xE ∨ op = 0xF := by
  simp [reservedOp, or_assoc]

theorem notHostOp_iff (op : Nat) : notHostOp op = true ↔ op = 0x5 ∨ (0x8 ≤ op ∧ op ≤ 0xD) := by
  simp [notHostOp]

theorem reservedOp_of_notHostOp {op : Nat} (h : notHostOp op = true) : reservedOp op = false := by
  have hr := mt (reservedOp_iff op).mp
  rw [notHostOp_iff] at h
  exact Bool.eq_false_of_not_eq_true (hr (by omega))

section
variable {w : Word}

theorem decodeHost_reserved (h : reservedOp (opField w) = true) : decodeHost w = .error .reservedOpcode := by
  rw [decodeHost, if_pos h]

theorem decodeHost_wrongPort (h : notHostOp (opField w) = true) : decodeHost w = .error .wrongPort := by
  rw [decodeHost, if_neg (by simp [reservedOp_of_notHostOp h]), if_pos h]

theorem decodeHost_keywr (h : opField w = 0x1) : decodeHost w = .ok (.keywr (idxField w) (dataField w)) := by
  simp [decodeHost, decode, reservedOp, notHostOp, h]

theorem decodeHost_setwr (h : opField w = 0x2) : decodeHost w = needIdxZero w (.setwr (dataField w)) := by
  simp [decodeHost, decode, reservedOp, notHostOp, h]

theorem decodeHost_potwr (h : opField w = 0x3) : decodeHost w = .ok (.potwr (idxField w) (dataField w)) := by
  simp [decodeHost, decode, reservedOp, notHostOp, h]

theorem decodeHost_scan (h : opField w = 0x4) : decodeHost w = needLowZero w .scan := by
  simp [decodeHost, decode, reservedOp, notHostOp, h]

theorem decodeHost_rdreg (h : opField w = 0x6) : decodeHost w = needIdxZero w (.rdreg (dataField w).toNat) := by
  simp [decodeHost, decode, reservedOp, notHostOp, h]

theorem needIdxZero_of_zero (h : idxField w = 0) (i : Instr) : needIdxZero w i = .ok i := needIdxZero_ok.mpr ⟨h, rfl⟩

theorem needLowZero_of_zero (h : lowField w = 0) (i : Instr) : needLowZero w i = .ok i := needLowZero_ok.mpr ⟨h, rfl⟩

theorem needIdxZero_of_ne (h : idxField w ≠ 0) (i : Instr) : needIdxZero w i = .error .reservedField := by
  rw [needIdxZero, if_neg h]

theorem needLowZero_of_ne (h : lowField w ≠ 0) (i : Instr) : needLowZero w i = .error .reservedField := by
  rw [needLowZero, if_neg h]

theorem decodeMicro_of_decode {i : Instr} (h1 : 0x8 ≤ opField w) (h2 : opField w ≤ 0xD) (h : decode w = .ok i) :
    decodeMicro w = some i := by
  have hop : microOp (opField w) = true := by simp [microOp, h1, h2]
  rw [decodeMicro, if_pos hop, h]
  rfl

end

/-- Settles O6: the listed turn chooses the agent, whose fetch takes and decodes its word. -/
theorem stepRunsTheDecodedInstruction : Obligations.StepRunsTheDecodedInstruction := by
  intro s ts hc
  exact ⟨fun _ _ _ ht hw hq hd => step_host_accepts hc ht hw hq hd,
    fun _ _ _ ht hq hd => step_scan_takes_head hc ht hq hd, step_timer hc⟩

/-- Settles O7: an op field of 0x8 to 0xD is a micro-op's, and the other three turns have one step each. -/
theorem scanAgentTakesTheHeadAndTickMayComeBetween : Obligations.ScanAgentTakesTheHeadAndTickMayComeBetween := by
  intro s ts hc
  refine ⟨fun w rest i ht hq h1 h2 hd => ?_, step_scan_empty hc, step_timer hc, step_host_held hc⟩
  rw [← opField_eq] at h1 h2
  exact step_scan_takes_head hc ht hq (decodeMicro_of_decode h1 h2 hd)

/-- Settles O8: both states take the same turn and are left in the same state by taking it. -/
theorem unlistedTurnActsAsAListedOne : Obligations.UnlistedTurnActsAsAListedOne := by
  intro s h
  refine step_congr (by rfl) ?_
  rw [takeTurn_unlisted h, takeTurn_listed rfl, ← h]
  rfl

/-- Settles O5: the op field picks the check that fails or the command that runs, whose own range check gives cause 3. -/
theorem hostWordIsCheckedInOrderThenExecuted : Obligations.HostWordIsCheckedInOrderThenExecuted := by
  intro s ts w ws hc ht hw hq s' op idx d
  have hop : opField w = op := opField_eq w
  have hidx : idxField w = idx := idxField_eq w
  have hdata : dataField w = BitVec.ofNat 8 d := dataField_eq_ofNat w
  have hreg : (dataField w).toNat = d := dataField_toNat w
  have hlow : lowField w = w.toNat % 4096 := lowField_eq w
  have runs {i : Instr} (hd : decodeHost w = .ok i) : step s = exec i s' := step_host_accepts hc ht hw hq hd
  have refuses {c : Cause} (hd : decodeHost w = .error c) : step s = .next (firstCauseRecorded (causeCode c) s') :=
    (step_host_refuses hc ht hw hq hd).trans (congrArg _ (raiseCmdError_eq_firstCauseRecorded c s'))
  refine ⟨fun h => ?reserved, fun h => ?wrongPort, fun h => ?keywr, fun h => ?setwr, fun h => ?potwr, fun h => ?scan,
    fun h => ?rdreg⟩
  case reserved => exact refuses (decodeHost_reserved (hop ▸ (reservedOp_iff op).mpr h))
  case wrongPort => exact refuses (decodeHost_wrongPort (hop ▸ (notHostOp_iff op).mpr h))
  case keywr =>
    have hstep := runs (decodeHost_keywr (hop.trans h))
    rw [hidx, hdata] at hstep
    exact ⟨fun hg => hstep.trans (exec_keywr_of_le (s := s') hg _), fun _ => hstep⟩
  case setwr =>
    have hdec := decodeHost_setwr (hop.trans h)
    rw [hdata] at hdec
    exact ⟨fun hne => refuses (hdec.trans (needIdxZero_of_ne (hidx ▸ hne) _)),
      fun hz => runs (hdec.trans (needIdxZero_of_zero (hidx.trans hz) _))⟩
  case potwr =>
    have hstep := runs (decodeHost_potwr (hop.trans h))
    rw [hidx, hdata] at hstep
    exact ⟨fun hg => hstep.trans (exec_potwr_of_le hg _ _), fun _ => hstep⟩
  case scan =>
    have hdec := decodeHost_scan (hop.trans h)
    exact ⟨fun hne => refuses (hdec.trans (needLowZero_of_ne (hlow ▸ hne) _)),
      fun hz => runs (hdec.trans (needLowZero_of_zero (hlow.trans hz) _))⟩
  case rdreg =>
    have hdec := decodeHost_rdreg (hop.trans h)
    rw [hreg] at hdec
    have hrun (hz : idx = 0) : step s = exec (.rdreg d) s' :=
      runs (hdec.trans (needIdxZero_of_zero (hidx.trans hz) _))
    exact ⟨fun hne => refuses (hdec.trans (needIdxZero_of_ne (hidx ▸ hne) _)),
      fun hz hnone => (hrun hz).trans (exec_rdreg_of_none (s := s') hnone), fun hz _ => hrun hz⟩

end Sys2Proof
end

section
/-! What whole steps keep (R32, R42, R45, R50, R80, R81, R92): read off `step_did` and the frames of the operations. -/

namespace Sys2Proof.Machine

section
variable {s t : State}

/-- Every operation writes the registers of the host commands or those of the backends, and never both. -/
theorem exec_frame {i : Instr} (h : exec i s = .next t) : t = s.withHostRegsOf t ∨ t = s.withBackendRegsOf t := by
  by_cases hp : i.path = .host
  · exact .inl (exec_host_frame hp h)
  · exact .inr (exec_backend_frame hp h)

theorem exec_cfg {i : Instr} (h : exec i s = .next t) : t.cfg = s.cfg := by
  rcases exec_frame h with hf | hf <;> rw [hf] <;> rfl

theorem exec_mode {i : Instr} (h : exec i s = .next t) : t.mode = s.mode := by
  rcases exec_frame h with hf | hf <;> rw [hf] <;> rfl

/-- Only SERTX touches SEROUT, and it appends (R240). -/
theorem exec_serout_of_ne_sertx {i : Instr} (hi : ∀ b, i ≠ .sertx b) (h : exec i s = .next t) : t.serout = s.serout := by
  cases i with
  | sertx b => exact absurd rfl (hi b)
  | tick => rw [exec_tick_frame h]
  | von | voff | pshift | potclr | advance => cases h; rfl
  | keywr | setwr | potwr | scan | rdreg => rw [exec_host_frame rfl h]; rfl

theorem exec_serout_grows {i : Instr} (h : exec i s = .next t) : ∃ bs, t.serout = s.serout ++ bs := by
  by_cases hi : ∃ b, i = .sertx b
  · obtain ⟨b, rfl⟩ := hi
    rw [exec_sertx] at h
    cases h
    exact ⟨[b], rfl⟩
  · exact ⟨[], (exec_serout_of_ne_sertx (fun b hb => hi ⟨b, hb⟩) h).trans (List.append_nil _).symm⟩

/-- A host command that is not refused leaves the error registers alone (R301). -/
theorem hostDid_error {i : Instr} (hd : HostDid s t i) :
    t = raiseCmdError .indexRange s ∨ (t.cmderr = s.cmderr ∧ t.errcause = s.errcause) := by
  cases hd with
  | refused ht => exact .inl ht
  | keys _ _ _ ht | settings _ ht | ignored _ _ ht | vibrato _ _ ht | tremolo _ _ ht | scan ht | read _ _ ht =>
    rw [ht]
    exact .inr ⟨rfl, rfl⟩

/-- KEYCUR is KEYWR's and SETCUR is SETWR's, among the host commands (R120, R123). -/
theorem hostDid_writers {i : Instr} (hd : HostDid s t i) :
    (t.keycur ≠ s.keycur → ∃ g v, i = .keywr g v) ∧ (t.setcur ≠ s.setcur → ∃ v, i = .setwr v) := by
  cases hd with
  | refused ht => rw [ht, raiseCmdError_frame]; simp
  | keys _ _ _ ht | settings _ ht | ignored _ _ ht | vibrato _ _ ht | tremolo _ _ ht | scan ht | read _ _ ht =>
    rw [ht]
    simp

theorem raiseCmdError_of_cmderr (h : s.cmderr = true) (c : Cause) : raiseCmdError c s = s := by
  rw [raiseCmdError, if_pos h]

/-- A step that is not a reset keeps a recorded error and its cause. -/
theorem step_keeps_error (hstep : step s = .next t) (hr : ¬ ResetIsNext s) (h : s.cmderr = true) :
    t.cmderr = s.cmderr ∧ t.errcause = s.errcause := by
  cases (step_did hstep).2 with
  | passed e _ ht => rw [ht]; exact ⟨rfl, rfl⟩
  | reset e m hm _ => exact absurd ⟨m, hm⟩ hr
  | refusedWord e c _ _ ht =>
    rw [ht, raiseCmdError_of_cmderr (s := s.setEnv e) h]
    exact ⟨rfl, rfl⟩
  | hostCommand e i _ _ hp hx =>
    rcases hostDid_error (host_did hp hx) with ht | hkeep
    · rw [ht, raiseCmdError_of_cmderr (s := s.setEnv e) h]
      exact ⟨rfl, rfl⟩
    · exact hkeep
  | microOp e w rest i _ _ _ hd hx => rw [exec_micro_frame (decodeMicro_path hd) hx]; exact ⟨rfl, rfl⟩
  | tick e _ _ hx => rw [exec_tick_frame hx]; exact ⟨rfl, rfl⟩

/-- What recording a first error does (R301, R302). -/
theorem raiseCmdError_first (h : s.cmderr = false) (c : Cause) :
    1 ≤ (raiseCmdError c s).errcause.toNat ∧ (raiseCmdError c s).errcause.toNat ≤ 4 ∧
      raiseCmdError c s = { s with cmderr := true, errcause := (raiseCmdError c s).errcause } := by
  have he : raiseCmdError c s = (s.setCmderr true).setErrcause (causeCode c) := by rw [raiseCmdError, if_neg (by simp [h])]
  rw [he]
  exact ⟨(causeCode_range c).1, (causeCode_range c).2, rfl⟩

/-- An error that a step records is a host word's that was refused, whichever of its checks failed. -/
theorem step_records_error (hstep : step s = .next t) (h0 : s.cmderr = false) (h1 : t.cmderr = true) :
    (takeTurn s).1 = .host ∧ s.scanq = [] ∧ ∃ e c, t = raiseCmdError c (s.setEnv e) := by
  cases (step_did hstep).2 with
  | passed e _ ht => cases h0.symm.trans (ht ▸ h1)
  | reset e m _ ht => cases ht ▸ h1
  | refusedWord e c hh hb ht => exact ⟨hh, hb, e, c, ht⟩
  | hostCommand e i hh hb hp hx =>
    rcases hostDid_error (host_did hp hx) with ht | ⟨hkeep, -⟩
    · exact ⟨hh, hb, e, .indexRange, ht⟩
    · cases h0.symm.trans (hkeep.symm.trans h1)
  | microOp e w rest i _ _ _ hd hx =>
    rw [exec_micro_frame (decodeMicro_path hd) hx] at h1
    cases h0.symm.trans h1
  | tick e _ _ hx =>
    rw [exec_tick_frame hx] at h1
    cases h0.symm.trans h1

/-- When a reset is next, the step is that reset. -/
theorem step_of_resetIsNext (hstep : step s = .next t) (hr : ResetIsNext s) : ∃ e m, t = resetBlock m (s.setEnv e) := by
  obtain ⟨m, hm⟩ := hr
  cases (step_did hstep).2 with
  | passed _ _ _ hno => exact absurd hm (hno m)
  | reset e m' _ ht => exact ⟨e, m', ht⟩
  | refusedWord _ _ hh | hostCommand _ _ hh | microOp _ _ _ _ hh | tick _ hh => cases hh.symm.trans hm

theorem runAction_total {a : Action} (ha : a ≠ .illegalScanWord) (s : State) : ∃ t, runAction a s = .next t := by
  cases a with
  | run i => exact exec_total i s
  | idle | reset m | cmdError c => exact ⟨_, rfl⟩
  | illegalScanWord => exact absurd rfl ha

theorem fetchHost_ne_illegal (s : State) : (fetchHost s).1 ≠ .illegalScanWord := by
  unfold fetchHost
  split
  · simp
  · obtain ⟨w, s'⟩ := takeHostWord s
    cases hd : decodeHost w <;> simp [hd]

/-- R92: the words of a scan queue are micro-op words. -/
theorem fetchScan_ne_illegal (h : s.Inv) : (fetchScan s).1 ≠ .illegalScanWord := by
  cases hq : s.scanq with
  | nil => rw [fetchScan_nil hq]; simp
  | cons w rest =>
    have hok : ScanqOk s.cfg s.mode (w :: rest) := hq ▸ h.scanq
    obtain ⟨i, hd, -⟩ := hok.head
    rw [fetchScan_cons hq hd]
    simp

theorem fetch_ne_illegal (h : s.Inv) : (fetch s).1 ≠ .illegalScanWord := by
  obtain ⟨e, he, -⟩ := takeTurn_state s
  have hp : takeTurn s = ((takeTurn s).1, s.setEnv e) := Prod.ext rfl he
  rw [fetch, hp]
  cases (takeTurn s).1 with
  | host => exact fetchHost_ne_illegal _
  | scan => exact fetchScan_ne_illegal (h.setEnv e)
  | timer => simp [fetchTimer]
  | reset m => simp

/-- R45, item 1, by slot numbers. -/
theorem slot_eq_of_note_eq {vs : List Voice} (h : (soundingNotes vs).Nodup) {i j : Nat} {u v : Voice}
    (hu : vs[i]? = some u) (hv : vs[j]? = some v) (huv : u.valid = true) (hvv : v.valid = true)
    (hn : u.note = v.note) : i = j := by
  have hpair : vs.Pairwise fun a b => a.valid = true → b.valid = true → a.note ≠ b.note := by
    have h' := List.pairwise_filter.mp (List.pairwise_map.mp h)
    exact h'.imp fun hab ha hb he => hab ha hb (congrArg BitVec.toNat he)
  obtain ⟨hi, rfl⟩ := List.getElem?_eq_some_iff.mp hu
  obtain ⟨hj, rfl⟩ := List.getElem?_eq_some_iff.mp hv
  rcases Nat.lt_trichotomy i j with hlt | heq | hgt
  · exact absurd hn (List.pairwise_iff_getElem.mp hpair i j hi hj hlt huv hvv)
  · exact heq
  · exact absurd hn.symm (List.pairwise_iff_getElem.mp hpair j i hj hi hgt hvv huv)

end
end Sys2Proof.Machine

namespace Sys2Proof

open Sys2Proof.Machine

/-- Settles O15: the one step that records an error is a refused host word, and only a reset clears one. -/
theorem commandErrorIsStickyUntilReset : Obligations.CommandErrorIsStickyUntilReset := by
  refine ⟨fun s t hstep hr h => ?_, fun s t hstep h0 h1 => ?_, fun s t hstep hr => ?_, fun c m => ⟨rfl, rfl⟩⟩
  · obtain ⟨he, hcause⟩ := step_keeps_error hstep hr h
    exact ⟨he.trans h, hcause⟩
  · obtain ⟨hh, hb, e, c, rfl⟩ := step_records_error hstep h0 h1
    obtain ⟨hlo, hhi, hframe⟩ := raiseCmdError_first (s := s.setEnv e) h0 c
    refine ⟨hh, (busy_eq_false_iff s).mpr hb, hlo, hhi, ?_⟩
    rw [hframe]
    rfl
  · obtain ⟨e, m, rfl⟩ := step_of_resetIsNext hstep hr
    exact ⟨rfl, rfl⟩

/-- Settles O25: with SCANQ not empty the step is a passed turn, a micro-operation or a TICK, and none of these writes a
register of the host commands. -/
theorem snapshotsAreStableDuringACycle : Obligations.SnapshotsAreStableDuringACycle := by
  intro s t _ hq hr hstep
  cases (step_did hstep).2 with
  | passed e hw ht => rw [ht]; exact ⟨rfl, rfl, rfl, rfl, rfl, rfl, rfl, hw⟩
  | reset e m hm _ => exact absurd ⟨m, hm⟩ hr
  | refusedWord e c _ hb _ => exact absurd hb hq
  | hostCommand e i _ hb _ _ => exact absurd hb hq
  | microOp e w rest i _ hw _ hd hx =>
    rw [exec_micro_frame (decodeMicro_path hd) hx]
    exact ⟨rfl, rfl, rfl, rfl, rfl, rfl, rfl, hw⟩
  | tick e _ hw hx =>
    rw [exec_tick_frame hx]
    exact ⟨rfl, rfl, rfl, rfl, rfl, rfl, rfl, hw⟩

/-- Settles O55: of what a turn can come to, only an illegal SCANQ word stops, and a scan queue holds none. -/
theorem goodStatesNeverStop : Obligations.GoodStatesNeverStop := by
  intro s h
  rw [step_of_wellFormed h.cfg]
  exact runAction_total (fetch_ne_illegal h) _

/-- Settles O56: the state reached is good, and R45 is read off its voice table. -/
theorem reachableVoiceTablesAreSound : Obligations.ReachableVoiceTablesAreSound := by
  intro c m s t e k hs hrun
  obtain ⟨hc, rfl⟩ := powerOn_eq_some.mp hs
  have h : t.Inv := run_keeps_inv ((resetWith_inv hc m).setEnv e) hrun
  refine ⟨fun i j u v hu hv huv hvv hn => slot_eq_of_note_eq h.voices.distinct hu hv huv hvv hn,
    fun v hv => (h.voices.slots v hv).1, fun v hv hidle => ?_, ?_⟩
  · rw [(h.voices.slots v hv).2 hidle]
    exact ⟨rfl, rfl, rfl⟩
  · rw [← h.voices.size]
    exact List.countP_le_length

/-- Settles O57: each operation's answer, and for the host commands what `host_did` says they did. -/
theorem eachRegisterHasItsExclusiveWriter : Obligations.EachRegisterHasItsExclusiveWriter := by
  intro i s t h
  by_cases hp : i.path = .host
  · have hf := exec_host_frame hp h
    obtain ⟨hkey, hset⟩ := hostDid_writers (host_did hp h)
    refine ⟨fun hne => absurd (congrArg State.duty hf) hne, fun hne => absurd (congrArg State.serout hf) hne, hkey, hset,
      fun hne => ?_, fun hi => ?_⟩
    · rcases hne with hne | hne
      · exact absurd (congrArg State.keyprev hf) hne
      · exact absurd (congrArg State.setprev hf) hne
    · rw [hi] at hp
      cases hp
  · cases i with
    | tick => rw [exec_tick_frame h]; simp
    | sertx b => rw [exec_sertx] at h; cases h; simp
    | von | voff | pshift | potclr | advance => cases h; simp
    | keywr | setwr | potwr | scan | rdreg => exact absurd rfl hp

/-- Settles O59: by what the step did; a reset leaves the bytes already on the link (R50). -/
theorem modeIsFixedAndSeroutOnlyGrows : Obligations.ModeIsFixedAndSeroutOnlyGrows := by
  intro s t hstep
  cases (step_did hstep).2 with
  | passed e _ ht => rw [ht]; exact ⟨fun _ => rfl, rfl, [], (List.append_nil _).symm⟩
  | reset e m hm ht => rw [ht]; exact ⟨fun hr => absurd ⟨m, hm⟩ hr, rfl, [], (List.append_nil _).symm⟩
  | refusedWord e c _ _ ht =>
    rw [ht, raiseCmdError_frame]
    exact ⟨fun _ => rfl, rfl, [], (List.append_nil _).symm⟩
  | hostCommand e i _ _ _ hx | microOp e _ _ i _ _ _ _ hx | tick e _ _ hx =>
    have hmode := exec_mode hx
    have hcfg := exec_cfg hx
    have hout := exec_serout_grows hx
    exact ⟨fun _ => hmode, hcfg, hout⟩

end Sys2Proof
end

section
/-! The host commands (R120 to R132): the stored snapshot bits, the settings byte, the readings, and the register number
map. -/

namespace Sys2Proof.Machine

/-- `zext_8(v[5:0])` masks bits [7:6] off (R120). -/
theorem keyBits_eq_and (v : Byte) : keyBits v = v &&& 0x3F := by
  apply BitVec.eq_of_toNat_eq
  have hmask : (v &&& 0x3F).toNat = v.toNat % 64 := Nat.and_two_pow_sub_one_eq_mod v.toNat 6
  rw [hmask, keyBits, BitVec.toNat_setWidth, BitVec.extractLsb'_toNat, Nat.shiftRight_zero]
  omega

/-- Writing the value a group already holds changes nothing. -/
theorem setKeycur_set_self {s : State} {g : Nat} {b : Byte} (h : s.keycur[g]? = some b) :
    s.setKeycur (s.keycur.set g b) = s := by
  obtain ⟨hg, rfl⟩ := List.getElem?_eq_some_iff.mp h
  rw [List.set_getElem_self]
  rfl

/-- A settings event needs a rising bit (R153). -/
theorem settingsEdges_of_no_rise {cur prev : Byte} (h : ∀ b, cur.getLsbD b = true → prev.getLsbD b = true) :
    settingsEdges cur prev = [] := by
  rw [settingsEdges, List.filterMap_eq_nil_iff]
  rintro ⟨b, d⟩ -
  exact if_neg fun ⟨hcur, hprev⟩ => (nomatch (h b hcur).symm.trans hprev)

/-- What SCAN's list depends on: all of these fields may differ (R129). -/
theorem cycleList_congr (s : State) (e : Bool) (ec : BitVec 3) (du : BitVec 16) (vs : List Voice) (t : BitVec 32)
    (r : BitVec 16) (q : List Word) (out : List Byte) (env : Env) :
    cycleList { s with cmderr := e, errcause := ec, duty := du, voices := vs, time := t, rdata := r, scanq := q,
                       serout := out, env := env } = cycleList s := rfl

theorem cycleList_getLast? (s : State) : (cycleList s).getLast? = some 0xD000 := by
  rw [cycleList, cycleOps_eq_before_advance, List.map_append]
  exact List.getLast?_concat

theorem cycleList_ne_nil (s : State) : cycleList s ≠ [] := by
  intro h
  have hlast := cycleList_getLast? s
  rw [h] at hlast
  cases hlast

/-! The register number map (R51), one lemma a range of numbers. -/

section
variable {c : Config} {i : Nat}

theorem regOf_keycur (h8 : i < 8) (h : i < c.groups) : regOf c i = some (.keycur i) := by
  rw [regOf, if_pos h8, if_pos h]

theorem regOf_keyprev (h8 : i < 8) (h : i < c.groups) : regOf c (0x08 + i) = some (.keyprev i) := by
  rw [regOf, if_neg (by omega), if_pos (by omega), Nat.add_sub_cancel_left, if_pos h]

theorem regOf_fixed (h1 : 0x10 ≤ i) (h2 : i < 0x20) : regOf c i = fixedReg i := by
  rw [regOf, if_neg (by omega), if_neg (by omega), if_pos h2]

theorem regOf_voiceNote (h32 : i < 32) (h : i < c.maxVoices) : regOf c (0x20 + i) = some (.voiceNote i) := by
  rw [regOf, if_neg (by omega), if_neg (by omega), if_neg (by omega), if_pos (by omega), Nat.add_sub_cancel_left, if_pos h]

theorem regOf_voicePhase (h32 : i < 32) (h : i < c.maxVoices) : regOf c (0x40 + i) = some (.voicePhase i) := by
  rw [regOf, if_neg (by omega), if_neg (by omega), if_neg (by omega), if_neg (by omega), if_pos (by omega),
    Nat.add_sub_cancel_left, if_pos h]

theorem regOf_voicePeriod (h32 : i < 32) (h : i < c.maxVoices) : regOf c (0x60 + i) = some (.voicePeriod i) := by
  rw [regOf, if_neg (by omega), if_neg (by omega), if_neg (by omega), if_neg (by omega), if_neg (by omega),
    if_pos (by omega), Nat.add_sub_cancel_left, if_pos h]

/-- Of the sixteen numbers from 0x10 on, the last four are unassigned. -/
theorem fixedReg_unassigned (h1 : 0x1C ≤ i) (h2 : i < 0x20) : fixedReg i = none := by
  obtain rfl | rfl | rfl | rfl : i = 0x1C ∨ i = 0x1D ∨ i = 0x1E ∨ i = 0x1F := by omega
  all_goals rfl

/-- The unassigned numbers: past the last group, past the last voice, the end of the fixed ones, and 0x80 on. -/
theorem regOf_unassigned
    (h : (c.groups ≤ i ∧ i < 0x08) ∨ (0x08 + c.groups ≤ i ∧ i < 0x10) ∨ (0x1C ≤ i ∧ i < 0x20) ∨
      (0x20 + c.maxVoices ≤ i ∧ i < 0x40) ∨ (0x40 + c.maxVoices ≤ i ∧ i < 0x60) ∨
      (0x60 + c.maxVoices ≤ i ∧ i < 0x80) ∨ 0x80 ≤ i) : regOf c i = none := by
  rcases h with ⟨h1, h2⟩ | ⟨h1, h2⟩ | ⟨h1, h2⟩ | ⟨h1, h2⟩ | ⟨h1, h2⟩ | ⟨h1, h2⟩ | h1
  · rw [regOf, if_pos h2, if_neg (by omega)]
  · rw [regOf, if_neg (by omega), if_pos h2, if_neg (by omega)]
  · rw [regOf_fixed (by omega) h2, fixedReg_unassigned h1 h2]
  · rw [regOf, if_neg (by omega), if_neg (by omega), if_neg (by omega), if_pos h2, if_neg (by omega)]
  · rw [regOf, if_neg (by omega), if_neg (by omega), if_neg (by omega), if_neg (by omega), if_pos h2,
      if_neg (by omega)]
  · rw [regOf, if_neg (by omega), if_neg (by omega), if_neg (by omega), if_neg (by omega), if_neg (by omega),
      if_pos h2, if_neg (by omega)]
  · rw [regOf, if_neg (by omega), if_neg (by omega), if_neg (by omega), if_neg (by omega), if_neg (by omega),
      if_neg (by omega)]

end

/-- The four fields of STATUS do not overlap (R40). -/
theorem status_fields (e : BitVec 3) (err busy mode : Bool) :
    ((e.setWidth 16 <<< 4) ||| ((BitVec.ofBool err).setWidth 16 <<< 2) ||| ((BitVec.ofBool busy).setWidth 16 <<< 1) |||
      (BitVec.ofBool mode).setWidth 16).toNat =
      16 * e.toNat + (if err = true then 4 else 0) + (if busy = true then 2 else 0) + (if mode = true then 1 else 0) := by
  revert e err busy mode
  decide

theorem status_toNat (s : State) :
    s.status.toNat = 16 * s.errcause.toNat + (if s.cmderr = true then 4 else 0) + (if s.scanq = [] then 0 else 2)
      + (if s.mode = .midi then 1 else 0) := by
  have hbusy : (if s.busy = true then 2 else 0) = if s.scanq = [] then 0 else 2 := by
    simp only [busy_eq_true_iff, ne_eq, ite_not]
  have hmode : (if modeBit s.mode = true then 1 else 0) = if s.mode = .midi then 1 else 0 := by
    cases s.mode <;> rfl
  rw [State.status, status_fields, hbusy, hmode]

/-- VOICE_NOTE: the valid bit above the note (R132). -/
theorem voiceNoteWord_toNat (v : Voice) :
    (voiceNoteWord v).toNat = (if v.valid = true then 32768 else 0) + v.note.toNat := by
  have hn := v.note.isLt
  have hnote : (v.note.setWidth 16).toNat = v.note.toNat := by
    rw [BitVec.toNat_setWidth, Nat.mod_eq_of_lt (by omega)]
  rw [voiceNoteWord, BitVec.toNat_or, hnote]
  cases v.valid with
  | false => simp
  | true => exact (Nat.two_pow_add_eq_or_of_lt (i := 15) (by omega) 1).symm

theorem voiceAt_of_some {s : State} {i : Nat} {v : Voice} (h : s.voices[i]? = some v) : s.voiceAt i = v := by
  rw [State.voiceAt, List.getD_eq_getElem?_getD, h, Option.getD_some]

theorem snapshotAt_of_some {l : List Byte} {g : Nat} {b : Byte} (h : l[g]? = some b) : snapshotAt l g = b := by
  rw [snapshotAt, List.getD_eq_getElem?_getD, h, Option.getD_some]

theorem extractLsb'_hi (t : BitVec 32) : t.extractLsb' 16 16 = BitVec.ofNat 16 (t.toNat / 65536) := by
  rw [BitVec.extractLsb', Nat.shiftRight_eq_div_pow]

end Sys2Proof.Machine

namespace Sys2Proof

open Sys2Proof.Machine

/-- Settles O10: the write replaces one list entry; outside the groups the command is refused. -/
theorem keywrStoresTheSixKeyBits : Obligations.KeywrStoresTheSixKeyBits := by
  intro g v s
  refine ⟨fun hg hlen => ⟨_, exec_keywr_of_lt hg v, ?_, fun j hj => ?_, rfl, fun hsame => ?_, fun v' => ?_⟩,
    fun hg => exec_keywr_of_le hg v⟩
  · rw [State.setKeycur_keycur, List.getElem?_set_self hlen, keyBits_eq_and]
  · rw [State.setKeycur_keycur, List.getElem?_set_ne hj.symm]
  · rw [keyBits_eq_and, setKeycur_set_self hsame]
  · rw [exec_keywr_of_lt hg v', exec_keywr_of_lt (s := s.setKeycur (s.keycur.set g (keyBits v))) hg v',
      State.setKeycur_keycur, List.set_set]
    rfl

/-- Settles O11: the host port's check of `[11:8] = 0`, the register number 0x10, and the rising bits 0 to 3. -/
theorem setwrStoresTheSettingsByte : Obligations.SetwrStoresTheSettingsByte := by
  have port (x : BitVec 4) (v : Byte) :
      decodeHost (0b0010#4 ++ x ++ v) = needIdxZero (mkWord 0x2 x.toNat v) (.setwr v) := by
    rw [append_eq_mkWord, decodeHost_setwr (opField_mkWord 0x2 _ v), dataField_mkWord]
  refine ⟨fun v => ?_, fun x v hx => ?_, rfl, exec_setwr, fun v s => ?_, fun v sp => ?_,
    fun v sp h => settingsEdges_of_no_rise h, by decide⟩
  · rw [port]
    exact needIdxZero_mkWord_zero 0x2 v _
  · rw [port, needIdxZero_of_ne]
    rw [idxField_mkWord, Nat.mod_eq_of_lt x.isLt]
    exact fun h => hx (BitVec.eq_of_toNat_eq h)
  · exact exec_rdreg_of_some (reg := .setcur) rfl
  · rw [settingsEdgesAreTheRisingEdgesInOrder, settingsEdgesAreTheRisingEdgesInOrder]
    simp

/-- Settles O12: the two channels, enabled or not, and the refusal of any other. -/
theorem potwrTakesTheReadingOfAnEnabledChannel : Obligations.PotwrTakesTheReadingOfAnEnabledChannel := by
  intro c v s
  refine ⟨?_, ?_, ?_, fun h => exec_potwr_of_le h v s⟩
  · rintro rfl he
    rw [exec_potwr_zero, if_pos he]
    rfl
  · rintro rfl he
    rw [exec_potwr_one, if_pos he]
    rfl
  · rintro (⟨rfl, he⟩ | ⟨rfl, he⟩)
    · rw [exec_potwr_zero, if_neg (by simp [he])]
    · rw [exec_potwr_one, if_neg (by simp [he])]

/-- Settles O13: the list ends with ADVANCE, and of the state's fields it reads only those the rule names. -/
theorem scanLoadsTheCyclesList : Obligations.ScanLoadsTheCyclesList := by
  intro s
  refine ⟨exec_scan s, cycleList_getLast? s, (busy_eq_true_iff _).mpr (cycleList_ne_nil s), ?_⟩
  intro s' hcfg hmode hcur hprev hset hsetp hp0 hp1 hchg hpitch hlast
  rw [← cycleList_congr s s'.cmderr s'.errcause s'.duty s'.voices s'.time s'.rdata s'.scanq s'.serout s'.env, ← hcfg,
    ← hmode, ← hcur, ← hprev, ← hset, ← hsetp, ← hp0, ← hp1, ← hchg, ← hpitch, ← hlast]

/-- Settles O14: the number map range by range, and what `readReg` gives for each register. -/
theorem rdregReadsTheNumberedRegister : Obligations.RdregReadsTheNumberedRegister := by
  intro s hsize hv hg
  have fixed {r : Nat} {reg : Reg} (hr : regOf s.cfg r = some reg) := exec_rdreg_of_some hr
  refine ⟨fun g b h hb => ?keycur, fun g b h hb => ?keyprev,
    fixed (reg := .setcur) rfl, fixed (reg := .setprev) rfl, fixed (reg := .potval0) rfl, fixed (reg := .potval1) rfl,
    fixed (reg := .potchg) rfl, fixed (reg := .pitch0) rfl, ⟨_, fixed (reg := .status) rfl, status_toNat s⟩,
    fixed (reg := .duty) rfl, ⟨_, fixed (reg := .voicecnt) rfl, ?voicecnt⟩, fixed (reg := .laststatus) rfl,
    fixed (reg := .timeLo) rfl, ?timeHi, fun i v hi => ?voice, fun r h => exec_rdreg_of_none (regOf_unassigned h)⟩
  case keycur =>
    rw [exec_rdreg_of_some (regOf_keycur (by omega) h), State.readReg, snapshotAt_of_some hb]
    rfl
  case keyprev =>
    rw [exec_rdreg_of_some (regOf_keyprev (by omega) h), State.readReg, snapshotAt_of_some hb]
    rfl
  case voicecnt =>
    have hle : s.voiceCount ≤ s.voices.length := List.countP_le_length
    rw [← List.countP_eq_length_filter]
    exact BitVec.toNat_ofNat s.voiceCount 16 |>.trans (Nat.mod_eq_of_lt (by omega))
  case timeHi =>
    rw [← extractLsb'_hi]
    exact fixed (reg := .timeHi) rfl
  case voice =>
    obtain ⟨hlt, -⟩ := List.getElem?_eq_some_iff.mp hi
    have hslot : i < s.cfg.maxVoices := hsize ▸ hlt
    have hat := voiceAt_of_some hi
    refine ⟨⟨voiceNoteWord v, ?_, voiceNoteWord_toNat v⟩, ?_, ?_⟩
    · rw [exec_rdreg_of_some (regOf_voiceNote (by omega) hslot), State.readReg, hat]
      rfl
    · rw [exec_rdreg_of_some (regOf_voicePhase (by omega) hslot), State.readReg, hat]
      rfl
    · rw [exec_rdreg_of_some (regOf_voicePeriod (by omega) hslot), State.readReg, hat]
      rfl

end Sys2Proof
end

section
/-! The pitch map and the detector (R150 to R174, R350 to R360): who moves PITCH0, what a cycle with equal or zero previous
snapshots finds, the cycle's last word, and the queue's length. -/

namespace Sys2Proof.Machine

section
variable {s t : State}

/-- R162 is the only rule that writes PITCH0. -/
theorem exec_pitch0_of_ne_pshift {i : Instr} (hi : ∀ d, i ≠ .pshift d) (h : exec i s = .next t) :
    t.pitch0 = s.pitch0 := by
  cases i with
  | pshift d => exact absurd rfl (hi d)
  | tick => rw [exec_tick_frame h]
  | sertx b => rw [exec_sertx] at h; cases h; rfl
  | von | voff | potclr | advance => cases h; rfl
  | keywr | setwr | potwr | scan | rdreg => rw [exec_host_frame rfl h]; rfl

/-- The backends' operations are no PSHIFTs (R171, R236). -/
theorem pshift_not_mem_backendOps (s : State) (d : Int) :
    Instr.pshift d ∉ backendOps s (keyEvents s.cfg s.keycur s.keyprev) := by
  intro h
  rcases mem_backendOps h with ⟨-, _, _, -, he | he⟩ | ⟨-, _, he⟩ <;> cases he

theorem pshift_mem_cycleOps (s : State) (d : Int) :
    Instr.pshift d ∈ cycleOps s ↔ d ∈ settingsEdges s.setcur s.setprev := by
  simp [cycleOps, pshift_not_mem_backendOps]

theorem foldl_shiftPitch_le {c : Config} (h : c.maxPitch0 < 256) (ds : List Int) {p : BitVec 8}
    (hp : p.toNat ≤ c.maxPitch0) : (ds.foldl (shiftPitch c) p).toNat ≤ c.maxPitch0 := by
  induction ds generalizing p with
  | nil => exact hp
  | cons d ds ih => exact ih (shiftPitch_le h p d)

/-- A zero snapshot has no key down. -/
theorem keyDown_of_zero {l : List Byte} (h : ∀ b ∈ l, b = 0) (k : Nat) : keyDown l k = false := by
  have hz : l.getD (k / 6) 0 = 0 := by
    rw [List.getD_eq_getElem?_getD]
    cases hb : l[k / 6]? with
    | none => rfl
    | some b => exact h b (List.mem_of_getElem? hb)
  rw [keyDown, hz]
  exact BitVec.getLsbD_zero

/-- Without a key down before, the event of a key is its Press (R354). -/
theorem keyEvent_of_prev_up {cur prev : List Byte} {k : Nat} (h : keyDown prev k = false) :
    keyEvent cur prev k = if keyDown cur k then some (.press, k) else none := by
  rw [keyEvent, h]
  cases keyDown cur k <;> rfl

theorem keyEvents_of_zero_prev (c : Config) (cur : List Byte) {prev : List Byte} (h : ∀ b ∈ prev, b = 0) :
    keyEvents c cur prev =
      ((List.range c.keysNumber).filter (fun k => keyDown cur k)).map (fun k => (KeyKind.press, k)) := by
  have hev : keyEvent cur prev = fun k => if keyDown cur k then some (.press, k) else none :=
    funext fun k => keyEvent_of_prev_up (keyDown_of_zero h k)
  rw [keyEvents, hev, ← List.filterMap_eq_map, List.filterMap_filter]
  rfl

/-- Equal snapshots have no event. -/
theorem keyEvents_self (c : Config) (l : List Byte) : keyEvents c l l = [] := by
  rw [keyEvents, List.filterMap_eq_nil_iff]
  intro k _
  unfold keyEvent
  cases keyDown l k <;> rfl

theorem settingsEdges_self (b : Byte) : settingsEdges b b = [] := settingsEdges_of_no_rise fun _ h => h

/-- With no changed reading there is no pot message (R235). -/
theorem potMsgBytes_of_unchanged (h : s.potchg = 0) : potMsgBytes s = [] := by
  have hflag (c : Nat) : s.potFlag c = false := by
    rw [State.potFlag, h]
    exact BitVec.getLsbD_zero
  rw [potMsgBytes, hflag, hflag]
  rfl

/-- A cycle with nothing to report is POTCLR and ADVANCE (R355). -/
theorem cycleList_of_unchanged (hk : s.keycur = s.keyprev) (hs : s.setcur = s.setprev) (hp : s.potchg = 0) :
    cycleList s = [0xB000, 0xD000] := by
  have hback : backendOps s [] = [] := by
    unfold backendOps
    split
    · rfl
    · rw [midiOps, noteMsgBytes_nil, potMsgBytes_of_unchanged hp]
      rfl
  rw [cycleList_eq, hk, hs, keyEvents_self, settingsEdges_self, hback]
  rfl

end
end Sys2Proof.Machine

namespace Sys2Proof

open Sys2Proof.Machine

/-- Settles O22: each operation's answer, the list's parts, and one clamp a PSHIFT. -/
theorem pitch0MovesOnlyByPshiftWithinItsRange : Obligations.Pitch0MovesOnlyByPshiftWithinItsRange := by
  refine ⟨fun i s t h hne => ?_, pshift_mem_cycleOps, fun c ds p hc hp => ?_⟩
  · by_contra hno
    exact hne (exec_pitch0_of_ne_pshift (fun d hd => hno ⟨d, hd⟩) h)
  · exact foldl_shiftPitch_le (wellFormed_facts hc).maxPitch0_lt ds hp

/-- Settles O60: the backend's words by run mode, and at most six behind them. -/
theorem scanQueueLengthIsBounded : Obligations.ScanQueueLengthIsBounded := by
  intro s
  have h := cycleList_length_le_scanqBound s
  constructor
  · intro hm
    rwa [hm] at h
  · intro hm
    rwa [hm] at h

/-- Settles O50: with no key down before, every event is a Press. -/
theorem firstScanReportsEveryKeyDown : Obligations.FirstScanReportsEveryKeyDown :=
  fun s h => keyEvents_of_zero_prev s.cfg s.keycur h

/-- Settles O51: the reset snapshots are equal and no reading has changed. -/
theorem scanRightAfterResetIsEmptyCycle : Obligations.ScanRightAfterResetIsEmptyCycle := by
  intro c m s hs
  obtain ⟨-, rfl⟩ := powerOn_eq_some.mp hs
  rw [exec_scan, cycleList_of_unchanged (by rfl) (by rfl) (by rfl)]
  rfl

/-- Settles O19: PITCH0 is at most MAX_PITCH_0 and the key below KEYS_NUMBER. -/
theorem noteIndexStaysInRange : Obligations.NoteIndexStaysInRange :=
  fun _ _ h he => Nat.le_sub_one_of_lt (noteIndex_lt h he)

/-- Settles O23: POTCLR's one update is `State.setPotchg`. -/
theorem potclrClearsBothFlags : Obligations.PotclrClearsBothFlags := exec_potclr

/-- Settles O24: ADVANCE's two updates; the SCAN agent has taken its word off the queue before (R160). -/
theorem advanceCopiesTheSnapshots : Obligations.AdvanceCopiesTheSnapshots := by
  refine ⟨exec_advance, fun s ts hc ht hq => ⟨_, ?_, rfl, rfl⟩⟩
  have hd : decodeMicro 0xD000 = some .advance := decodeMicro_encode (i := .advance) rfl rfl
  rw [step_scan_takes_head hc ht hq hd, exec_advance]
  rfl

/-- Settles O47: the reset of a well-formed block, component by component. -/
theorem resetSetsEveryComponent : Obligations.ResetSetsEveryComponent := by
  intro s m ts hc ht
  exact ⟨_, step_reset hc ht, rfl, rfl, List.length_replicate, fun _ hb => List.eq_of_mem_replicate hb,
    List.length_replicate, fun _ hb => List.eq_of_mem_replicate hb, rfl, rfl, rfl, rfl, rfl,
    (wellFormed_facts hc).pitch0Reset_toNat, rfl, rfl, rfl, List.length_replicate,
    fun _ hv => List.eq_of_mem_replicate hv, rfl, rfl, rfl, rfl, rfl, rfl, rfl⟩

end Sys2Proof
end

section
/-! The MIDI encoder's queues and bytes (R231 to R240, R306). -/

namespace Sys2Proof.Machine

theorem mem_onQueue {es : List (KeyKind × Nat)} {k : Nat} : k ∈ onQueue es ↔ (KeyKind.press, k) ∈ es := by
  simp [onQueue_eq_map_filter]

theorem mem_offQueue {es : List (KeyKind × Nat)} {k : Nat} : k ∈ offQueue es ↔ (KeyKind.release, k) ∈ es := by
  simp [offQueue_eq_map_filter]

/-- The keys of any part of the events ascend (R151, R231). -/
theorem keyEvents_filter_pairwise (c : Config) (C P : List Byte) (p : KeyKind × Nat → Bool) :
    (((keyEvents c C P).filter p).map Prod.snd).Pairwise (· < ·) := by
  refine List.Pairwise.sublist (List.filter_sublist.map Prod.snd) ?_
  rw [keyEvents_map_snd]
  exact List.pairwise_lt_range.filter _

/-- A key has one event, a Press or a Release (R150). -/
theorem release_not_mem_of_press_mem {c : Config} {C P : List Byte} {k : Nat} (h : (KeyKind.press, k) ∈ keyEvents c C P) :
    (KeyKind.release, k) ∉ keyEvents c C P := by
  intro h'
  have hpress := (mem_keyEvents.mp h).2
  have hrelease := (mem_keyEvents.mp h').2
  rw [hpress] at hrelease
  cases hrelease

/-- The bytes of a Release stand side by side among the note messages (R233). -/
theorem releaseBytes_infix_noteMsgBytes (s : State) {es : List (KeyKind × Nat)} {k : Nat}
    (h : (KeyKind.release, k) ∈ es) : [noteByte s k, velOff] <:+: noteMsgBytes s es := by
  have hrelease : (KeyKind.release, k) ∈ es.filter (fun e => decide (e.1 = .release)) := List.mem_filter.mpr ⟨h, rfl⟩
  rw [noteMsgBytes_of_ne_nil s (List.ne_nil_of_mem h)]
  exact (infix_flatMap_of_mem (fun e => [noteByte s e.2, velOff]) hrelease).trans (List.suffix_append _ _).isInfix

/-- With no slot of the note VOFF leaves the table alone (R195). -/
theorem voicesOff_of_silent {n : Nat} {vs : List Voice} (h : ∀ v ∈ vs, v.valid = true → v.note.toNat ≠ n) :
    voicesOff n vs = vs := by
  rcases voicesOff_cases n vs with ⟨-, he⟩ | ⟨i, u, hu, hval, hn, -⟩
  · exact he
  · exact absurd hn (h u (List.mem_of_getElem? hu) hval)

theorem exec_voff_of_silent {n : Nat} {s : State} (h : ∀ v ∈ s.voices, v.valid = true → v.note.toNat ≠ n) :
    exec (.voff n) s = .next s := by
  rw [exec_voff, voicesOff_of_silent h, setVoices_voices_self]

/-- Bit 7 of a byte as a bound (R240). -/
theorem getLsbD_seven_iff (b : Byte) : b.getLsbD 7 = true ↔ 128 ≤ b.toNat := by
  have hmsb : b.getLsbD 7 = b.msb := rfl
  rw [hmsb, BitVec.msb_eq_decide, decide_eq_true_eq]

end Sys2Proof.Machine

namespace Sys2Proof

open Sys2Proof.Machine

/-- Settles O39: the queues are the filtered events, whose keys ascend and are below KEYS_NUMBER. -/
theorem queuesHoldEachKeyAtMostOnce : Obligations.QueuesHoldEachKeyAtMostOnce := by
  intro s es
  refine ⟨fun k => mem_onQueue, fun k => mem_offQueue, ?_, ?_, ?_, fun k hon hoff => ?_⟩
  · rw [onQueue_eq_map_filter]
    exact keyEvents_filter_pairwise _ _ _ _
  · rw [offQueue_eq_map_filter]
    exact keyEvents_filter_pairwise _ _ _ _
  · rw [onQueue_length_add_offQueue_length]
    exact keyEvents_length_le _ _ _
  · exact release_not_mem_of_press_mem (mem_onQueue.mp hon) (mem_offQueue.mp hoff)

/-- Settles O40: NOTE_NUMBER is at most 128 and MIDI_C0 at most 127, so the sum fits a byte. -/
theorem noteByteIsTheExactSum : Obligations.NoteByteIsTheExactSum := by
  intro s k h hk
  have hpitch := h.pitch0
  have hadd := h.facts.maxPitch0_add
  have hnotes := h.facts.notesHi
  have hc0 := h.facts.midiC0
  have hsum : (noteByte s k).toNat = s.pitch0.toNat + k + s.cfg.midiC0 := toNat_ofNat_byte (by omega)
  exact ⟨hsum, by omega⟩

/-- Settles O42: the two status bytes are Pitch Bend and Control Change on the channel. -/
theorem potMessagesArePitchBendThenControlChange : Obligations.PotMessagesArePitchBendThenControlChange :=
  fun s hc => ⟨statusByte 0xE0 s.cfg, statusByte 0xB0 s.cfg, statusByte_toNat (by decide) hc,
    statusByte_toNat (by decide) hc, rfl⟩

/-- Settles O43: bit 7 decides whether LASTSTATUS follows the byte. -/
theorem sertxSendsOneByte : Obligations.SertxSendsOneByte := by
  intro b s
  rw [← getLsbD_seven_iff, ← Nat.not_le, ← getLsbD_seven_iff, exec_sertx]
  constructor
  · intro h
    rw [if_pos h]
    rfl
  · intro h
    rw [if_neg h]
    rfl

/-- Settles O37: a note that sounds nowhere has no slot to clear; the Release's pair is carried to the cycle's operations. -/
theorem unmatchedReleaseIsSilentInSynthAndSentInMidi : Obligations.UnmatchedReleaseIsSilentInSynthAndSentInMidi := by
  constructor
  · intro n s h
    exact exec_voff_of_silent fun v hv hval hn => h v hv ⟨hval, hn⟩
  · intro s k hm hrelease
    obtain ⟨xs, ys, h⟩ := map_sertx_infix_cycleOps hm (releaseBytes_infix_noteMsgBytes s hrelease)
    exact ⟨xs, ys, h.symm⟩

end Sys2Proof
end

section
/-! The synthesizer's voices (R191 to R195, R362): what VON and VOFF leave of the table. -/

namespace Sys2Proof.Machine

section
variable {c : Config} {t : BitVec 32} {n : Nat} {vs : List Voice}

/-- R192, first case: the note sounds. -/
theorem voicesOn_of_sounding (h : ∃ v ∈ vs, v.valid = true ∧ v.note.toNat = n) : voicesOn c t n vs = vs := by
  rcases voicesOn_cases c t n vs with ⟨-, he⟩ | ⟨-, -, he⟩ | ⟨hno, -⟩
  · exact he
  · exact he
  · obtain ⟨v, hv, hval, hn⟩ := h
    exact absurd hn (hno v hv hval)

/-- R192, last case: the lowest free slot takes the voice. -/
theorem voicesOn_of_lowest_free {i : Nat} {u : Voice} (hno : ∀ v ∈ vs, v.valid = true → v.note.toNat ≠ n)
    (hu : vs[i]? = some u) (hfree : u.valid = false) (hlow : ∀ j v, j < i → vs[j]? = some v → v.valid = true) :
    voicesOn c t n vs = vs.set i (newVoice c t n) := by
  rcases voicesOn_cases c t n vs with ⟨⟨v, hv, hval, hn⟩, -⟩ | ⟨-, hfull, -⟩ | ⟨-, j, w, hw, hwfree, hwlow, he⟩
  · exact absurd hn (hno v hv hval)
  · cases hfree.symm.trans (hfull u (List.mem_of_getElem? hu))
  · rcases Nat.lt_trichotomy i j with hlt | rfl | hgt
    · cases hfree.symm.trans (hwlow i u hlt hu)
    · exact he
    · cases hwfree.symm.trans (hlow j w hgt hw)

/-- The one slot of a note is the one VOFF clears (R195). -/
theorem voicesOff_of_only_slot {i : Nat} {u : Voice} (hu : vs[i]? = some u) (hval : u.valid = true)
    (hn : u.note.toNat = n) (honly : ∀ j v, j ≠ i → vs[j]? = some v → v.valid = true → v.note.toNat ≠ n) :
    voicesOff n vs = vs.set i Voice.idle := by
  rcases voicesOff_cases n vs with ⟨hno, -⟩ | ⟨j, w, hw, hwval, hwn, he⟩
  · exact absurd hn (hno u (List.mem_of_getElem? hu) hval)
  · obtain rfl : j = i := by
      by_contra hne
      exact honly j w hne hw hwval hwn
    exact he

/-- A voice of another note survives VOFF. -/
theorem mem_voicesOff_of_note_ne {v : Voice} (hv : v ∈ vs) (hn : v.note.toNat ≠ n) : v ∈ voicesOff n vs := by
  rcases voicesOff_cases n vs with ⟨-, he⟩ | ⟨i, u, hu, -, hun, he⟩ <;> rw [he]
  · exact hv
  · obtain ⟨j, hj⟩ := List.mem_iff_getElem?.mp hv
    have hne : i ≠ j := by
      rintro rfl
      obtain rfl := Option.some.inj (hu.symm.trans hj)
      exact hn hun
    exact List.mem_of_getElem? ((List.getElem?_set_ne hne).trans hj)

theorem exec_von_of_sounding {s : State} (h : ∃ v ∈ s.voices, v.valid = true ∧ v.note.toNat = n) :
    exec (.von n) s = .next s := by
  rw [exec_von, execVon, voicesOn_of_sounding h, setVoices_voices_self]

/-- Every slot is free or sounding. -/
theorem countP_valid_add_countP_free (vs : List Voice) :
    vs.countP (fun v => v.valid) + vs.countP (fun v => !v.valid) = vs.length := by
  simpa using (List.length_eq_countP_add_countP (fun v : Voice => v.valid) (l := vs)).symm

/-- VON of a new note with a slot free: one more note sounds. -/
theorem soundingNotes_voicesOn_of_free (hn : n < 256) (hno : n ∉ soundingNotes vs)
    (hfree : ∃ v ∈ vs, v.valid = false) :
    (soundingNotes (voicesOn c t n vs)).Perm (n :: soundingNotes vs) := by
  rcases voicesOn_cases c t n vs with ⟨hs, -⟩ | ⟨-, hfull, -⟩ | ⟨-, i, u, hu, hidle, -, he⟩
  · exact absurd (mem_soundingNotes.mpr hs) hno
  · obtain ⟨v, hv, hidle⟩ := hfree
    cases hidle.symm.trans (hfull v hv)
  · rw [he]
    have hperm := soundingNotes_set_valid hu hidle (newVoice_valid c t n)
    rwa [newVoice_note c t hn] at hperm

/-- VON on a full table changes nothing, in any number. -/
theorem foldl_voicesOn_of_full (hfull : ∀ v ∈ vs, v.valid = true) (ns : List Nat) :
    ns.foldl (fun vs n => voicesOn c t n vs) vs = vs := by
  induction ns with
  | nil => rfl
  | cons n ns ih => rw [List.foldl_cons, voicesOn_of_full c t n hfull, ih]

/-- R191: new notes take the free slots in their order, and those past the last free slot are dropped. -/
theorem soundingNotes_foldl_voicesOn {ns : List Nat} (hnd : ns.Nodup) (hlt : ∀ n ∈ ns, n < 256)
    (hno : ∀ n ∈ ns, n ∉ soundingNotes vs) :
    (soundingNotes (ns.foldl (fun vs n => voicesOn c t n vs) vs)).Perm
      (ns.take (vs.countP fun v => !v.valid) ++ soundingNotes vs) := by
  induction ns generalizing vs with
  | nil => simp
  | cons n ns ih =>
    by_cases hfree : ∃ v ∈ vs, v.valid = false
    · have hn : n ∉ soundingNotes vs := hno n List.mem_cons_self
      have hperm := soundingNotes_voicesOn_of_free (c := c) (t := t) (hlt n List.mem_cons_self) hn hfree
      have hcount : vs.countP (fun v => !v.valid) = (voicesOn c t n vs).countP (fun v => !v.valid) + 1 := by
        have hlen := hperm.length_eq
        rw [List.length_cons, soundingNotes_length, soundingNotes_length] at hlen
        have h1 := countP_valid_add_countP_free vs
        have h2 := countP_valid_add_countP_free (voicesOn c t n vs)
        rw [voicesOn_length] at h2
        omega
      have hrest : ∀ m ∈ ns, m ∉ soundingNotes (voicesOn c t n vs) := by
        intro m hm hmem
        rcases List.mem_cons.mp (hperm.mem_iff.mp hmem) with rfl | hold
        · exact (List.nodup_cons.mp hnd).1 hm
        · exact hno m (List.mem_cons_of_mem n hm) hold
      rw [List.foldl_cons, hcount, List.take_succ_cons]
      refine (ih (List.nodup_cons.mp hnd).2 (fun m hm => hlt m (List.mem_cons_of_mem n hm)) hrest).trans ?_
      exact (hperm.append_left _).trans List.perm_middle
    · have hfull : ∀ v ∈ vs, v.valid = true := fun v hv => by
        by_contra hv'
        exact hfree ⟨v, hv, Bool.eq_false_of_not_eq_true hv'⟩
      have hzero : vs.countP (fun v => !v.valid) = 0 := List.countP_eq_zero.mpr fun v hv => by simp [hfull v hv]
      rw [foldl_voicesOn_of_full hfull, hzero]
      exact .refl _

end
end Sys2Proof.Machine

namespace Sys2Proof

open Sys2Proof.Machine

/-- Settles O26: the three cases of R192, and the new voice's period and phase where the ROM has an entry. -/
theorem vonTakesTheLowestFreeSlot : Obligations.VonTakesTheLowestFreeSlot := by
  intro n s hn
  refine ⟨exec_von_of_sounding, fun hfull => execVon_of_full n hfull, fun i u hno hu hfree hlow => ?_⟩
  refine ⟨newVoice s.cfg s.time n, ?_, rfl, newVoice_note s.cfg s.time hn, fun P hP h2 => ?_⟩
  · rw [exec_von, execVon, voicesOn_of_lowest_free hno hu hfree hlow]
    rfl
  · exact newVoice_period_phase hP (by omega)

/-- Settles O27: both cases of R195. -/
theorem voffMakesTheVoiceIdle : Obligations.VoffMakesTheVoiceIdle := by
  intro n s
  refine ⟨exec_voff_of_silent, fun i u hu hval hn honly => ?_⟩
  rw [exec_voff, voicesOff_of_only_slot hu hval hn honly]
  rfl

/-- Settles O38: the notes that sound afterwards, as a permutation, give both the membership and the count. -/
theorem pressesFillTheFreeSlotsAndTheRestAreDropped : Obligations.PressesFillTheFreeSlotsAndTheRestAreDropped := by
  intro s ns hnd hlt hno free after
  have hperm : (soundingNotes after).Perm (ns.take free ++ soundingNotes s.voices) :=
    soundingNotes_foldl_voicesOn hnd hlt hno
  constructor
  · intro n
    rw [hperm.mem_iff, List.mem_append, or_comm]
  · rw [← soundingNotes_length, hperm.length_eq, List.length_append, List.length_take, soundingNotes_length,
      Nat.min_comm, Nat.add_comm]

/-- Settles O52: PSHIFT leaves the table alone, and the voice's note is not the key's new note index. -/
theorem heldVoiceOutlivesAPitchShift : Obligations.HeldVoiceOutlivesAPitchShift := by
  intro s t d k v h hv hval hn hne
  rw [exec_pshift] at h
  cases h
  have hnew : v.note.toNat ≠ (shiftPitch s.cfg s.pitch0 d).toNat + k := fun he =>
    hne (BitVec.eq_of_toNat_eq (Nat.add_right_cancel (he.symm.trans hn)))
  exact ⟨hv, ⟨_, exec_voff _ _, mem_voicesOff_of_note_ne hv hnew⟩, exec_von_of_sounding ⟨v, hv, hval, rfl⟩⟩

end Sys2Proof
end

section
/-! The sample (R196 to R203, R352): the shapes' contributions on their domain, the sum over the slots, and DUTY. -/

namespace Sys2Proof.Machine

section
variable {q ph p : Nat}

theorem contrib_square (hph : ph < p) (hp : 2 ≤ p) : contrib .square q ph p = if 2 * ph < p then q else 0 := by
  rw [contrib, if_pos ⟨hph, hp⟩]
  rfl

theorem contrib_triangle (hph : ph < p) (hp : 2 ≤ p) :
    contrib .triangle q ph p = if 2 * ph < p then 2 * q * ph / p else 2 * q * (p - ph) / p := by
  rw [contrib, if_pos ⟨hph, hp⟩]
  rfl

theorem contrib_sawtooth (hph : ph < p) (hp : 2 ≤ p) : contrib .sawtooth q ph p = q * ph / p := by
  rw [contrib, if_pos ⟨hph, hp⟩]
  rfl

/-- A quotient of `2 * q * x` with `x` at most half the period is at most `q`. -/
theorem two_mul_div_le {x : Nat} (h : 2 * x ≤ p) : 2 * q * x / p ≤ q := by
  refine Nat.div_le_of_le_mul ?_
  calc 2 * q * x = 2 * x * q := by ring
    _ ≤ p * q := Nat.mul_le_mul_right q h

/-- R203: no shape contributes more than AMP_Q. -/
theorem contrib_le (w : WaveShape) (hph : ph < p) (hp : 2 ≤ p) : contrib w q ph p ≤ q := by
  cases w with
  | square =>
    rw [contrib_square hph hp]
    split
    · exact Nat.le_refl q
    · exact Nat.zero_le q
  | triangle =>
    rw [contrib_triangle hph hp]
    split
    · exact two_mul_div_le (by omega)
    · exact two_mul_div_le (by omega)
  | sawtooth =>
    rw [contrib_sawtooth hph hp]
    exact Nat.div_le_of_le_mul ((Nat.mul_comm q ph).trans_le (Nat.mul_le_mul_right q hph.le))

end

theorem voiceContrib_of_valid {c : Config} {v : Voice} (h : v.valid = true) :
    voiceContrib c v = contrib c.waveShape c.ampQ v.phase.toNat v.period.toNat := by
  rw [voiceContrib, if_pos h]

theorem voiceContrib_of_idle {c : Config} {v : Voice} (h : v.valid = false) : voiceContrib c v = 0 := by
  rw [voiceContrib, if_neg (by simp [h])]

/-- Idle slots add nothing to the sum (R200). -/
theorem sampleSum_eq_sum_valid (c : Config) (vs : List Voice) :
    sampleSum c vs = ((vs.filter (fun v => v.valid)).map
      (fun v => contrib c.waveShape c.ampQ v.phase.toNat v.period.toNat)).sum := by
  induction vs with
  | nil => rfl
  | cons v vs ih =>
    have hcons : sampleSum c (v :: vs) = voiceContrib c v + sampleSum c vs := List.sum_cons
    cases hv : v.valid with
    | true => rw [hcons, ih, voiceContrib_of_valid hv, List.filter_cons_of_pos hv, List.map_cons, List.sum_cons]
    | false => rw [hcons, ih, voiceContrib_of_idle hv, List.filter_cons_of_neg (by simp [hv]), Nat.zero_add]

theorem voiceContrib_le {c : Config} (hc : WellFormedFacts c) {v : Voice} (h : Voice.ok c v) :
    voiceContrib c v ≤ c.ampQ := by
  cases hv : v.valid with
  | true =>
    rw [voiceContrib_of_valid hv]
    exact contrib_le _ (h.phase_lt hv) (h.two_le_period hc hv)
  | false =>
    rw [voiceContrib_of_idle hv]
    exact Nat.zero_le _

/-- The voice table adds at most AMP_Q a slot (R203). -/
theorem sampleSum_le {c : Config} (hc : WellFormedFacts c) {vs : List Voice} (h : VoiceTableOk c vs) :
    sampleSum c vs ≤ c.maxVoices * c.ampQ := by
  have hsum : sampleSum c vs ≤ (vs.map (voiceContrib c)).length • c.ampQ := by
    refine List.sum_le_card_nsmul _ _ fun x hx => ?_
    obtain ⟨v, hv, rfl⟩ := List.mem_map.mp hx
    exact voiceContrib_le hc (h.slots v hv)
  rwa [List.length_map, h.size, smul_eq_mul] at hsum

theorem sampleSum_replicate_idle (c : Config) (k : Nat) : sampleSum c (List.replicate k Voice.idle) = 0 := by
  simp [sampleSum, voiceContrib, Voice.idle]

@[simp] theorem synthTick_duty (s : State) : (synthTick s).duty = sampleDuty s.cfg s.voices := rfl
@[simp] theorem synthTick_voices (s : State) : (synthTick s).voices = s.voices.map stepPhase := rfl
@[simp] theorem synthTick_time (s : State) : (synthTick s).time = s.time + 1 := rfl
@[simp] theorem synthTick_mode (s : State) : (synthTick s).mode = s.mode := rfl
@[simp] theorem synthTick_cfg (s : State) : (synthTick s).cfg = s.cfg := rfl

end Sys2Proof.Machine

namespace Sys2Proof

open Sys2Proof.Machine

/-- Settles O28: the three shapes' equations, and the two halves of the triangle. -/
theorem shapeContributionsAreExactQuotients : Obligations.ShapeContributionsAreExactQuotients := by
  intro q ph P hph hP
  have hpos : 0 < P := by omega
  refine ⟨contrib_square hph hP, fun h => ?_, fun h => ?_, contrib_sawtooth hph hP, fun w => contrib_le w hph hP,
    fun hq => ?_, fun hmid => ?_⟩
  · rw [contrib_triangle hph hP, if_pos h]
  · rw [contrib_triangle hph hP, if_neg (Nat.not_lt.mpr h)]
  · rw [contrib_sawtooth hph hP]
    exact (Nat.div_lt_iff_lt_mul hpos).mpr (Nat.mul_lt_mul_of_pos_left hph hq)
  · have hhalf : 2 * q * (P - ph) = q * P := by
      rw [show P - ph = ph by omega, ← hmid]
      ring
    rw [contrib_triangle hph hP, if_neg (by omega), hhalf, Nat.mul_div_cancel _ hpos]

/-- Settles O29: `synthTick`, one slot at a time. -/
theorem tickWritesTheSampleAndAdvances : Obligations.TickWritesTheSampleAndAdvances := by
  intro s hm htop hok
  refine ⟨synthTick s, execTick_of_synth hm, rfl, ?_, ?_, fun i v hi hidle => ?_, fun i v hi hval => ?_, ?_⟩
  · rw [synthTick_duty, sampleDuty_toNat htop, sampleSum_eq_sum_valid]
  · rw [synthTick_voices, List.length_map]
  · rw [synthTick_voices, List.getElem?_map, hi, Option.map_some, stepPhase_of_idle hidle]
  · obtain ⟨-, h2⟩ := hok v (List.mem_of_getElem? hi) hval
    refine ⟨(stepPhase v).phase, ?_, stepPhase_phase hval (by omega)⟩
    rw [synthTick_voices, List.getElem?_map, hi, Option.map_some]
    simp [stepPhase, hval]
  · rw [synthTick_time, BitVec.toNat_add]
    rfl

/-- Settles O31: the frame of TICK, and `synthTick` as a function of what it reads. -/
theorem tickTouchesOnlyTheSynthesizer : Obligations.TickTouchesOnlyTheSynthesizer := by
  intro s s' hcfg hmode hvoices htime hduty
  obtain ⟨t, ht⟩ := exec_total .tick s
  obtain ⟨t', ht'⟩ := exec_total .tick s'
  refine ⟨t, t', ht, ht', exec_tick_frame ht, ?_⟩
  rcases exec_tick_cases ht with ⟨hm, rfl⟩ | ⟨hm, rfl⟩
  · rcases exec_tick_cases ht' with ⟨-, rfl⟩ | ⟨hm', -⟩
    · simp [hcfg, hvoices, htime]
    · cases hm'.symm.trans (hmode.trans hm)
  · rcases exec_tick_cases ht' with ⟨hm', -⟩ | ⟨-, rfl⟩
    · cases hm'.symm.trans (hmode.trans hm)
    · exact ⟨hduty, hvoices, htime⟩

/-- Settles O32: each slot's bound, their sum, and the clamp. -/
theorem sampleStaysWithinTheDutyRange : Obligations.SampleStaysWithinTheDutyRange := by
  intro s h
  refine ⟨fun v hv => voiceContrib_le h.facts (h.voices.slots v hv), sampleSum_le h.facts h.voices, maxVoices_mul_le s.cfg,
    fun hm => ⟨_, execTick_of_synth hm, ?_⟩⟩
  have hbase := h.facts.base
  rw [synthTick_duty, sampleDuty_toNat h.facts.pwmTop_lt]
  omega

/-- Settles O49: the reset table is all Idle, so the sum is 0 and BASELINE is not above PWM_TOP. -/
theorem firstTickAfterResetIsSilence : Obligations.FirstTickAfterResetIsSilence := by
  intro c s hc hs
  obtain ⟨-, rfl⟩ := powerOn_eq_some.mp hs
  have h := wellFormed_facts hc
  refine ⟨rfl, ?_, synthTick (State.resetWith c .synth), execTick_of_synth (s := State.resetWith c .synth) rfl, ?_⟩
  · exact List.countP_eq_zero.mpr fun v hv => by rw [List.eq_of_mem_replicate hv]; decide
  · have hsum : sampleSum c (State.resetWith c .synth).voices = 0 := sampleSum_replicate_idle c c.maxVoices
    have hduty := sampleDuty_toNat h.pwmTop_lt (State.resetWith c .synth).voices
    rw [hsum, Nat.add_zero, Nat.min_eq_left h.base] at hduty
    exact hduty

end Sys2Proof
end

section
/-! Phases and time (R202, R204): the TICK commutes with VON and VOFF up to DUTY, a VON and its VOFF leave nothing behind,
and every step keeps the phases in step with T. -/

namespace Sys2Proof.Machine

section
variable {c : Config} {t : BitVec 32} {n : Nat} {vs : List Voice}

theorem soundsNote_comp_stepPhase (n : Nat) : soundsNote n ∘ stepPhase = soundsNote n := by
  funext v
  simp [soundsNote]

theorem free_comp_stepPhase : (fun v : Voice => !v.valid) ∘ stepPhase = fun v => !v.valid := by
  funext v
  simp

/-- VON on the advanced table is the advanced table of VON, when the new voice is. -/
theorem voicesOn_map_stepPhase {t' : BitVec 32} (h : newVoice c t' n = stepPhase (newVoice c t n)) (vs : List Voice) :
    voicesOn c t' n (vs.map stepPhase) = (voicesOn c t n vs).map stepPhase := by
  unfold voicesOn
  rw [List.any_map, List.findIdx?_map, soundsNote_comp_stepPhase, free_comp_stepPhase]
  split
  · rfl
  · split
    · rw [List.map_set, h]
    · rfl

theorem voicesOff_map_stepPhase (n : Nat) (vs : List Voice) :
    voicesOff n (vs.map stepPhase) = (voicesOff n vs).map stepPhase := by
  unfold voicesOff
  rw [List.findIdx?_map, soundsNote_comp_stepPhase]
  split
  · rw [List.map_set, stepPhase_idle]
  · rfl

/-- A voice created now and advanced is the voice created one sample later, while T does not wrap (R192, R200). -/
theorem newVoice_succ (hc : WellFormedFacts c) (hn : n < c.noteNumber) (ht : t.toNat + 1 < 2 ^ 32) :
    newVoice c (t + 1) n = stepPhase (newVoice c t n) := by
  obtain ⟨p, hp, h2⟩ := hc.rom hn
  have hpos : 0 < p.toNat := by omega
  obtain ⟨hper, hph⟩ := newVoice_period_phase (t := t) hp hpos
  obtain ⟨-, hph'⟩ := newVoice_period_phase (t := t + 1) hp hpos
  have hstep := stepPhase_phase (newVoice_valid c t n) (hper ▸ hpos)
  have htime : (t + 1).toNat = t.toNat + 1 := by
    rw [BitVec.toNat_add]
    exact Nat.mod_eq_of_lt ht
  have hphase : (newVoice c (t + 1) n).phase = (stepPhase (newVoice c t n)).phase := by
    apply BitVec.eq_of_toNat_eq
    rw [hstep, hph', htime, hper, hph, Nat.mod_add_mod]
  simpa [stepPhase, newVoice] using hphase

/-- R204 on the table: VOFF empties the slot that VON of a new note filled, and that slot was all 0. -/
theorem voicesOff_voicesOn (hok : ∀ v ∈ vs, Voice.ok c v) (hn : n < 256)
    (hno : ∀ v ∈ vs, v.valid = true → v.note.toNat ≠ n) : voicesOff n (voicesOn c t n vs) = vs := by
  rcases voicesOn_cases c t n vs with ⟨-, he⟩ | ⟨-, -, he⟩ | ⟨-, i, u, hu, hidle, -, he⟩
  · rw [he, voicesOff_of_silent hno]
  · rw [he, voicesOff_of_silent hno]
  · obtain ⟨hi, rfl⟩ := List.getElem?_eq_some_iff.mp hu
    have hslot : vs[i] = Voice.idle := (hok _ (List.getElem_mem hi)).2 hidle
    have hothers : ∀ j v, j ≠ i → (vs.set i (newVoice c t n))[j]? = some v → v.valid = true → v.note.toNat ≠ n := by
      intro j v hj hv
      rw [List.getElem?_set_ne hj.symm] at hv
      exact hno v (List.mem_of_getElem? hv)
    rw [he, voicesOff_of_only_slot (List.getElem?_set_self hi) (newVoice_valid c t n) (newVoice_note c t hn) hothers,
      List.set_set, ← hslot, List.set_getElem_self]

end

section
variable {s : State}

theorem iterate_synthTick_mode (k : Nat) (s : State) : (synthTick^[k] s).mode = s.mode := by
  induction k with
  | zero => rfl
  | succ k ih => rw [Function.iterate_succ_apply', synthTick_mode, ih]

theorem iterate_synthTick_voices (k : Nat) (s : State) : (synthTick^[k] s).voices = (List.map stepPhase)^[k] s.voices := by
  induction k with
  | zero => rfl
  | succ k ih => rw [Function.iterate_succ_apply', synthTick_voices, ih, Function.iterate_succ_apply']

/-- Ticks on another voice table differ in the table and in DUTY only. -/
theorem iterate_synthTick_setVoices (k : Nat) (s : State) (vs : List Voice) :
    ∃ d, synthTick^[k] (s.setVoices vs) = ((synthTick^[k] s).setVoices ((List.map stepPhase)^[k] vs)).setDuty d := by
  induction k with
  | zero => exact ⟨s.duty, rfl⟩
  | succ k ih =>
    obtain ⟨d, hd⟩ := ih
    rw [Function.iterate_succ_apply', hd, Function.iterate_succ_apply' (f := synthTick),
      Function.iterate_succ_apply' (f := List.map stepPhase)]
    exact ⟨_, rfl⟩

theorem voicesOff_iterate_map_stepPhase (n k : Nat) (vs : List Voice) :
    voicesOff n ((List.map stepPhase)^[k] vs) = (List.map stepPhase)^[k] (voicesOff n vs) :=
  Function.Commute.iterate_right (voicesOff_map_stepPhase n) k vs

/-- A TICK writes DUTY without reading it (R200). -/
theorem exec_tick_setDuty (hm : s.mode = .synth) (d : BitVec 16) : exec .tick (s.setDuty d) = exec .tick s := by
  rw [exec_tick, exec_tick, execTick_of_synth hm, execTick_of_synth (s := s.setDuty d) hm]
  rfl

theorem PhasesLocked.of_eq {t : State} (h : PhasesLocked s) (hv : t.voices = s.voices) (ht : t.time = s.time) :
    PhasesLocked t := by
  unfold PhasesLocked
  rwa [hv, ht]

theorem mem_voicesOn {c : Config} {t : BitVec 32} {n : Nat} {vs : List Voice} {v : Voice} (h : v ∈ voicesOn c t n vs) :
    v ∈ vs ∨ v = newVoice c t n := by
  rcases voicesOn_cases c t n vs with ⟨-, he⟩ | ⟨-, -, he⟩ | ⟨-, i, u, -, -, -, he⟩ <;> rw [he] at h
  · exact .inl h
  · exact .inl h
  · exact List.mem_or_eq_of_mem_set h

theorem mem_voicesOff {n : Nat} {vs : List Voice} {v : Voice} (h : v ∈ voicesOff n vs) : v ∈ vs ∨ v = Voice.idle := by
  rcases voicesOff_cases n vs with ⟨-, he⟩ | ⟨i, u, -, -, -, he⟩ <;> rw [he] at h
  · exact .inl h
  · exact List.mem_or_eq_of_mem_set h

/-- R202 over a micro-operation: a new voice starts in step with T (R192), and no other writes a phase. -/
theorem phasesLocked_of_generated {t : State} (h : s.Inv) (hl : PhasesLocked s) {i : Instr}
    (hg : i.generated s.cfg s.mode = true) (hx : exec i s = .next t) : PhasesLocked t := by
  cases i with
  | von n =>
    obtain ⟨-, hn⟩ : s.mode = .synth ∧ n < s.cfg.noteNumber := by simpa [Instr.generated] using hg
    obtain ⟨p, hp, h2⟩ := h.facts.rom hn
    obtain ⟨hper, hph⟩ := newVoice_period_phase (t := s.time) hp (by omega)
    cases hx
    intro v hv hval
    rcases mem_voicesOn hv with hold | rfl
    · exact hl v hold hval
    · rw [hper]
      exact hph
  | voff n =>
    cases hx
    intro v hv hval
    rcases mem_voicesOff hv with hold | rfl
    · exact hl v hold hval
    · cases hval
  | sertx b => rw [exec_sertx] at hx; cases hx; exact hl
  | pshift | potclr | advance => cases hx; exact hl
  | keywr | setwr | potwr | scan | tick | rdreg => cases hg

/-- R202 over a sample tick: phase and T both advance by one, and agree while T does not wrap or the wrap is a multiple of
the period. -/
theorem phasesLocked_synthTick (h : s.Inv) (hl : PhasesLocked s)
    (hwrap : s.time.toNat + 1 < 2 ^ 32 ∨ ∀ v ∈ s.voices, v.valid = true → v.period.toNat ∣ 2 ^ 32) :
    PhasesLocked (synthTick s) := by
  intro v hv hval
  obtain ⟨u, hu, rfl⟩ := List.mem_map.mp hv
  rw [stepPhase_valid] at hval
  have h2 := (h.voices.slots u hu).two_le_period h.facts hval
  have htime : (s.time + 1).toNat % u.period.toNat = (s.time.toNat + 1) % u.period.toNat := by
    rw [BitVec.toNat_add]
    rcases hwrap with hlt | hdvd
    · exact congrArg (· % u.period.toNat) (Nat.mod_eq_of_lt hlt)
    · exact Nat.mod_mod_of_dvd _ (hdvd u hu hval)
  rw [stepPhase_phase hval (by omega), stepPhase_period, synthTick_time, htime, hl u hu hval, Nat.mod_add_mod]

end
end Sys2Proof.Machine

namespace Sys2Proof

open Sys2Proof.Machine

/-- Settles O33: VOFF commutes with the ticks and undoes the VON, and the next TICK does not read DUTY. -/
theorem pressThenReleaseLeavesNoResidue : Obligations.PressThenReleaseLeavesNoResidue := by
  intro s n k h hm hn hno _
  obtain ⟨d, hd⟩ := iterate_synthTick_setVoices k s (voicesOn s.cfg s.time n s.voices)
  have hn256 : n < 256 := by
    have := h.facts.notesHi
    omega
  have hvoices : voicesOff n ((List.map stepPhase)^[k] (voicesOn s.cfg s.time n s.voices)) =
      (synthTick^[k] s).voices := by
    rw [voicesOff_iterate_map_stepPhase, voicesOff_voicesOn h.voices.slots hn256 hno, iterate_synthTick_voices]
  refine ⟨_, (synthTick^[k] s).setDuty d, rfl, ?_, rfl, exec_tick_setDuty ((iterate_synthTick_mode k s).trans hm) d⟩
  rw [hd, exec_voff, State.setDuty_voices, State.setVoices_voices, hvoices]
  rfl

/-- Settles O34: by what the step did; only TICK and VON write a phase, and a reset leaves no voice. -/
theorem phasesStayLockedToTheSampleCounter : Obligations.PhasesStayLockedToTheSampleCounter := by
  intro s t h hl hstep hwrap
  cases (step_did hstep).2 with
  | passed e _ ht => exact hl.of_eq (by rw [ht]; rfl) (by rw [ht]; rfl)
  | reset e m _ ht =>
    rw [ht]
    intro v hv hval
    rw [List.eq_of_mem_replicate hv] at hval
    cases hval
  | refusedWord e c _ _ ht => exact hl.of_eq (by rw [ht, raiseCmdError_frame]; rfl) (by rw [ht, raiseCmdError_frame]; rfl)
  | hostCommand e i _ _ hp hx => exact hl.of_eq (by rw [exec_host_frame hp hx]; rfl) (by rw [exec_host_frame hp hx]; rfl)
  | microOp e w rest i _ _ hq hd hx =>
    obtain ⟨hg, hinv⟩ := generated_of_head h hq hd e
    exact phasesLocked_of_generated hinv (hl.of_eq rfl rfl) hg hx
  | tick e _ _ hx =>
    rcases exec_tick_cases hx with ⟨-, rfl⟩ | ⟨-, rfl⟩
    · exact phasesLocked_synthTick (h.setEnv e) (hl.of_eq rfl rfl) hwrap
    · exact hl.of_eq rfl rfl

/-- Settles O35: VON's table one sample later is the advanced table of VON. -/
theorem tickAndVonCommuteExceptForDuty : Obligations.TickAndVonCommuteExceptForDuty := by
  intro s a b a' b' n h hm hn ht ha ha' hb hb'
  have hvoices := voicesOn_map_stepPhase (newVoice_succ h.facts hn ht) s.voices
  rw [exec_tick, execTick_of_synth hm] at hb
  cases ha
  cases hb
  have hmode : (s.setVoices (voicesOn s.cfg s.time n s.voices)).mode = .synth := hm
  rw [exec_tick, execTick_of_synth hmode] at ha'
  cases ha'
  rw [exec_von, execVon, synthTick_voices, synthTick_time, synthTick_cfg, hvoices] at hb'
  cases hb'
  rfl

end Sys2Proof
end

section
/-! The drained queue (R102, R160): SCAN-agent steps on a queue of encoded micro-operations are those operations in order. -/

namespace Sys2Proof.Machine

/-- The state that `exec` answers: every operation completes. -/
def after (i : Instr) (s : State) : State :=
  match exec i s with
  | .next t => t
  | .fault _ => s
  | .refused _ => s

theorem exec_eq_after (i : Instr) (s : State) : exec i s = .next (after i s) := by
  obtain ⟨t, ht⟩ := exec_total i s
  rw [after, ht]

theorem after_of_exec {i : Instr} {s t : State} (h : exec i s = .next t) : after i s = t := by
  rw [after, h]

/-- The operations of a list in order. -/
def afterAll (is : List Instr) (s : State) : State := is.foldl (fun s i => after i s) s

@[simp] theorem afterAll_nil (s : State) : afterAll [] s = s := rfl

@[simp] theorem afterAll_cons (i : Instr) (is : List Instr) (s : State) :
    afterAll (i :: is) s = afterAll is (after i s) := rfl

theorem afterAll_append (is js : List Instr) (s : State) : afterAll (is ++ js) s = afterAll js (afterAll is s) :=
  List.foldl_append

section
variable {s : State}

theorem after_pshift (d : Int) (s : State) : after (.pshift d) s = s.setPitch0 (shiftPitch s.cfg s.pitch0 d) := rfl
theorem after_advance (s : State) : after .advance s = (s.setKeyprev s.keycur).setSetprev s.setcur := rfl

theorem after_sertx (b : Byte) (s : State) :
    after (.sertx b) s = (s.setSerout (s.serout ++ [b])).setLaststatus (if b.getLsbD 7 then b else s.laststatus) :=
  after_of_exec (exec_sertx b s)

/-- A micro-operation neither reads nor writes SCANQ. -/
theorem after_setScanq {i : Instr} (hp : i.path = .scanq) (q : List Word) (s : State) :
    after i (s.setScanq q) = (after i s).setScanq q := by
  cases i with
  | sertx b => rw [after_sertx, after_sertx]; rfl
  | von | voff | pshift | potclr | advance => rfl
  | keywr | setwr | potwr | scan | tick | rdreg => cases hp

theorem after_frame {i : Instr} (hp : i.path = .scanq) (s : State) : after i s = s.withBackendRegsOf (after i s) :=
  exec_micro_frame hp (exec_eq_after i s)

/-- The frame of a list of micro-operations. -/
theorem afterAll_frame {is : List Instr} (hp : ∀ i ∈ is, i.path = .scanq) (s : State) :
    afterAll is s = s.withBackendRegsOf (afterAll is s) := by
  induction is generalizing s with
  | nil => rfl
  | cons i is ih =>
    have htail := ih (fun j hj => hp j (List.mem_cons_of_mem i hj)) (after i s)
    have hhead := after_frame (hp i List.mem_cons_self) s
    rw [afterAll_cons, htail, hhead]
    rfl

/-- One SCAN-agent step of the drain. -/
theorem drainScan_succ {fuel : Nat} {w : Word} {rest : List Word} {i : Instr} (hq : s.scanq = w :: rest)
    (hd : decodeMicro w = some i) : drainScan (fuel + 1) s = drainScan fuel (after i (s.setScanq rest)) := by
  rw [drainScan, fetchScan_cons hq hd, runAction, exec_eq_after]
  simp [hq]

/-- Draining a queue of encoded micro-operations runs them in order, with SCANQ empty at the end. -/
theorem drainScan_eq_afterAll {is : List Instr} (hp : ∀ i ∈ is, i.path = .scanq) (hw : ∀ i ∈ is, i.wellFormed = true)
    (hq : s.scanq = is.map encode) : drainScan s.scanq.length s = .next (afterAll is (s.setScanq [])) := by
  induction is generalizing s with
  | nil =>
    have hself : s.setScanq [] = s := by rw [← List.map_nil, ← hq]; rfl
    rw [hq, afterAll_nil, hself]
    rfl
  | cons i is ih =>
    have hpi := hp i List.mem_cons_self
    have hdec := decodeMicro_encode (hw i List.mem_cons_self) hpi
    have hrest : (after i (s.setScanq (is.map encode))).scanq = is.map encode := by rw [after_setScanq hpi]; rfl
    have htail := ih (fun j hj => hp j (List.mem_cons_of_mem i hj)) (fun j hj => hw j (List.mem_cons_of_mem i hj)) hrest
    rw [hrest] at htail
    rw [hq, List.map_cons, List.length_cons, drainScan_succ hq hdec, htail, after_setScanq hpi,
      State.setScanq_setScanq, afterAll_cons, after_setScanq hpi]

/-- SCANSYNC is the cycle's operations in order, when they fit their fields. -/
theorem scanSync_eq_afterAll (hw : ∀ i ∈ cycleOps s, i.wellFormed = true) (hq : s.scanq = []) :
    scanSync s = .next (afterAll (cycleOps s) s) := by
  have hp : ∀ i ∈ cycleOps s, i.path = .scanq := by
    intro i hi
    rw [cycleOps_eq_before_advance, List.mem_append, List.mem_singleton, mem_opsBeforeAdvance] at hi
    rcases hi with (hb | ⟨d, -, rfl⟩ | rfl) | rfl
    · rcases mem_backendOps hb with ⟨-, _, _, -, rfl | rfl⟩ | ⟨-, _, rfl⟩ <;> rfl
    · rfl
    · rfl
    · rfl
  have hself : s.setScanq [] = s := by rw [← hq]; rfl
  have hdrain := drainScan_eq_afterAll (s := s.setScanq (cycleList s)) hp hw rfl
  rw [State.setScanq_setScanq, hself] at hdrain
  exact hdrain

/-- Bytes sent in order (R240). -/
theorem afterAll_map_sertx (bs : List Byte) (s : State) :
    afterAll (bs.map .sertx) s = (s.setSerout (s.serout ++ bs)).setLaststatus
      (bs.foldl (fun l b => if 128 ≤ b.toNat then b else l) s.laststatus) := by
  induction bs generalizing s with
  | nil => rw [List.append_nil]; rfl
  | cons b bs ih =>
    rw [List.map_cons, afterAll_cons, after_sertx, ih, List.foldl_cons]
    simp only [getLsbD_seven_iff, State.setLaststatus_serout, State.setSerout_serout, State.setLaststatus_laststatus,
      List.append_assoc, List.cons_append, List.nil_append]
    rfl

/-- PSHIFTs in order, a clamp at each (R162). -/
theorem afterAll_map_pshift (ds : List Int) (s : State) :
    afterAll (ds.map .pshift) s = s.setPitch0 (ds.foldl (shiftPitch s.cfg) s.pitch0) := by
  induction ds generalizing s with
  | nil => rfl
  | cons d ds ih =>
    rw [List.map_cons, afterAll_cons, after_pshift, ih]
    rfl

/-- The voice table after a cycle's events, on the given pitch (R171, R192, R195). -/
def voicesAfterEvents (c : Config) (t : BitVec 32) (pitch : Nat) (es : List (KeyKind × Nat)) (vs : List Voice) :
    List Voice :=
  es.foldl (fun vs e => if e.1 = .press then voicesOn c t (pitch + e.2) vs else voicesOff (pitch + e.2) vs) vs

/-- One event's operation, as `synthOps` gives it (R171). -/
def eventOp (pitch : Nat) (e : KeyKind × Nat) : Instr :=
  match e.1 with
  | .press => .von (pitch + e.2)
  | .release => .voff (pitch + e.2)

theorem synthOps_eq_map_eventOp (s : State) (es : List (KeyKind × Nat)) :
    synthOps s es = es.map (eventOp s.pitch0.toNat) := rfl

theorem after_eventOp (pitch : Nat) (e : KeyKind × Nat) (s : State) :
    after (eventOp pitch e) s = s.setVoices (voicesAfterEvents s.cfg s.time pitch [e] s.voices) := by
  obtain ⟨_ | _, k⟩ := e
  · rfl
  · rfl

theorem afterAll_map_eventOp (pitch : Nat) (es : List (KeyKind × Nat)) (s : State) :
    afterAll (es.map (eventOp pitch)) s = s.setVoices (voicesAfterEvents s.cfg s.time pitch es s.voices) := by
  induction es generalizing s with
  | nil => rfl
  | cons e es ih =>
    rw [List.map_cons, afterAll_cons, after_eventOp, ih]
    rfl

/-- The cycle's last operations, common to both modes (R170). -/
theorem afterAll_cycleOps (s : State) :
    afterAll (cycleOps s) s =
      let b := afterAll (backendOps s (keyEvents s.cfg s.keycur s.keyprev)) s
      { b with
        pitch0 := (settingsEdges s.setcur s.setprev).foldl (shiftPitch b.cfg) b.pitch0
        potchg := 0
        keyprev := b.keycur
        setprev := b.setcur } := by
  rw [cycleOps, afterAll_append, afterAll_append, afterAll_map_pshift]
  rfl

theorem wellFormed_of_mem_cycleOps (h : s.Inv) {i : Instr} (hi : i ∈ cycleOps s) : i.wellFormed = true := by
  rw [cycleOps_eq_before_advance, List.mem_append, List.mem_singleton] at hi
  rcases hi with hi | rfl
  · exact generated_wellFormed h.facts (generated_and_ne_advance_of_mem h hi).1
  · rfl

/-- In MIDI mode no operand of the cycle depends on the keys, so every idle state's cycle fits its fields. -/
theorem wellFormed_of_mem_cycleOps_midi (hm : s.mode = .midi) {i : Instr} (hi : i ∈ cycleOps s) : i.wellFormed = true := by
  rw [cycleOps_eq_before_advance, List.mem_append, List.mem_singleton, mem_opsBeforeAdvance] at hi
  rcases hi with (hb | ⟨d, hd, rfl⟩ | rfl) | rfl
  · rcases mem_backendOps hb with ⟨hs, -⟩ | ⟨-, _, rfl⟩
    · cases hm.symm.trans hs
    · rfl
  · rcases mem_settingsEdges hd with rfl | rfl | rfl | rfl <;> decide
  · rfl
  · rfl

/-- A whole cycle in MIDI mode, from any idle state. -/
theorem scanSync_midi (hm : s.mode = .midi) (hq : s.scanq = []) :
    let bytes := noteMsgBytes s (keyEvents s.cfg s.keycur s.keyprev) ++ potMsgBytes s
    scanSync s = .next { s with
      serout := s.serout ++ bytes
      laststatus := bytes.foldl (fun l b => if 128 ≤ b.toNat then b else l) s.laststatus
      pitch0 := (settingsEdges s.setcur s.setprev).foldl (shiftPitch s.cfg) s.pitch0
      potchg := 0
      keyprev := s.keycur
      setprev := s.setcur } := by
  intro bytes
  have hback : backendOps s (keyEvents s.cfg s.keycur s.keyprev) = bytes.map .sertx := by rw [backendOps, hm]; rfl
  rw [scanSync_eq_afterAll (fun _ hi => wellFormed_of_mem_cycleOps_midi hm hi) hq, afterAll_cycleOps, hback,
    afterAll_map_sertx]
  rfl

/-- A scan queue is the encoding of micro-operations that end with ADVANCE. -/
theorem ScanqOk.exists_ops {c : Config} {m : RunMode} {q : List Word} (h : ScanqOk c m q) (hne : q ≠ []) :
    ∃ is, q = (is ++ [.advance]).map encode ∧ ∀ i ∈ is, i.path = .scanq ∧ i.wellFormed = true := by
  induction q with
  | nil => exact absurd rfl hne
  | cons w rest ih =>
    obtain ⟨i, hd, hg⟩ := h.head
    obtain ⟨hwf, hw⟩ := wellFormed_and_encode_of_decode (decode_of_decodeMicro hd)
    by_cases hrest : rest = []
    · subst hrest
      rcases h.ends with h0 | ⟨hlast, -⟩
      · cases h0
      · exact ⟨[], congrArg (· :: []) (Option.some.inj hlast), by simp⟩
    · obtain ⟨is, his, hall⟩ := ih h.tail hrest
      refine ⟨i :: is, by rw [his, ← hw]; rfl, fun j hj => ?_⟩
      rcases List.mem_cons.mp hj with rfl | hj
      · exact ⟨generated_path hg, hwf⟩
      · exact hall j hj

end
end Sys2Proof.Machine

namespace Sys2Proof

open Sys2Proof.Machine

/-- Settles O45: the bytes are SERTXs, and `afterAll_cycleOps` gives what follows them. -/
theorem midiScanCycleSendsItsMessages : Obligations.MidiScanCycleSendsItsMessages :=
  fun _ _ hm hq => scanSync_midi hm hq

/-- Settles O46: the events' operations all carry the pitch from before the cycle. -/
theorem synthScanCyclePlaysItsEvents : Obligations.SynthScanCyclePlaysItsEvents := by
  intro s h hm hq
  have hback : backendOps s (keyEvents s.cfg s.keycur s.keyprev) =
      (keyEvents s.cfg s.keycur s.keyprev).map (eventOp s.pitch0.toNat) := by
    rw [backendOps, hm, synthOps_eq_map_eventOp]
  rw [scanSync_eq_afterAll (fun _ hi => wellFormed_of_mem_cycleOps h hi) hq, afterAll_cycleOps, hback,
    afterAll_map_eventOp]
  rfl

/-- Settles O9: the queue is micro-operations up to its ADVANCE, whose frame keeps what ADVANCE copies. -/
theorem holdIsLiftedByTheCyclesAdvance : Obligations.HoldIsLiftedByTheCyclesAdvance := by
  intro s h hne
  obtain ⟨is, his, hall⟩ := h.scanq.exists_ops hne
  have hops : ∀ i ∈ is ++ [.advance], i.path = .scanq ∧ i.wellFormed = true := by
    intro i hi
    rcases List.mem_append.mp hi with hi | hi
    · exact hall i hi
    · rw [List.mem_singleton.mp hi]
      exact ⟨rfl, rfl⟩
  have hframe := afterAll_frame (fun i hi => (hall i hi).1) (s.setScanq [])
  refine ⟨_, drainScan_eq_afterAll (fun i hi => (hops i hi).1) (fun i hi => (hops i hi).2) his, ?_⟩
  rw [afterAll_append, afterAll_cons, afterAll_nil, after_advance, hframe]
  exact ⟨rfl, rfl, rfl, rfl, rfl, rfl, rfl, rfl, rfl⟩

end Sys2Proof
end

section
/-! The MIDI framing property (R241): one key down and up again, from snapshots that are otherwise zero. -/

namespace Sys2Proof.Machine

/-- With every other group zero, of the first group's snapshots only key 0 is down. -/
theorem keyDown_one_cons {zs : List Byte} (hz : ∀ b ∈ zs, b = 0) (k : Nat) :
    keyDown (0x01 :: zs) k = decide (k = 0) := by
  by_cases h6 : k < 6
  · have hbit : ∀ k < 6, (0x01 : Byte).getLsbD k = decide (k = 0) := by decide
    rw [← hbit k h6, keyDown, Nat.div_eq_of_lt h6, Nat.mod_eq_of_lt h6]
    rfl
  · have hzero : keyDown (0x01 :: zs) k = keyDown zs (k - 6) := by
      rw [keyDown, keyDown, show k / 6 = (k - 6) / 6 + 1 by omega, show k % 6 = (k - 6) % 6 by omega, List.getD_cons_succ]
    rw [hzero, keyDown_of_zero hz, decide_eq_false (by omega)]

/-- The one key that differs gives the one event. -/
theorem keyEvents_of_only_key_zero {c : Config} (hk : 0 < c.keysNumber) {cur prev : List Byte} {kind : KeyKind}
    (h0 : keyEvent cur prev 0 = some (kind, 0)) (h : ∀ k, k ≠ 0 → keyEvent cur prev k = none) :
    keyEvents c cur prev = [(kind, 0)] := by
  obtain ⟨n, hn⟩ := Nat.exists_eq_succ_of_ne_zero hk.ne'
  rw [keyEvents, hn, List.range_succ_eq_map, List.filterMap_cons_some h0, List.filterMap_map,
    (List.filterMap_eq_nil_iff (f := keyEvent cur prev ∘ Nat.succ)).mpr fun k _ => h (k + 1) (Nat.succ_ne_zero k)]

theorem zero_cons_zero {zs : List Byte} (hz : ∀ b ∈ zs, b = 0) : ∀ b ∈ (0x00 : Byte) :: zs, b = 0 := by
  simpa using hz

theorem keyEvents_press_zero {c : Config} (hk : 0 < c.keysNumber) {zs : List Byte} (hz : ∀ b ∈ zs, b = 0) :
    keyEvents c (0x01 :: zs) (0x00 :: zs) = [(.press, 0)] := by
  have hev (k : Nat) : keyEvent (0x01 :: zs) (0x00 :: zs) k = if decide (k = 0) then some (.press, k) else none := by
    rw [keyEvent_of_prev_up (keyDown_of_zero (zero_cons_zero hz) k), keyDown_one_cons hz]
  exact keyEvents_of_only_key_zero hk (hev 0) fun k hne => (hev k).trans (by simp [hne])

theorem keyEvents_release_zero {c : Config} (hk : 0 < c.keysNumber) {zs : List Byte} (hz : ∀ b ∈ zs, b = 0) :
    keyEvents c (0x00 :: zs) (0x01 :: zs) = [(.release, 0)] := by
  have hev (k : Nat) : keyEvent (0x00 :: zs) (0x01 :: zs) k = if decide (k = 0) then some (.release, k) else none := by
    rw [keyEvent, keyDown_one_cons hz, keyDown_of_zero (zero_cons_zero hz)]
    cases decide (k = 0) <;> rfl
  exact keyEvents_of_only_key_zero hk (hev 0) fun k hne => (hev k).trans (by simp [hne])

/-- NOTE_ON on channel 0 (R234). -/
theorem noteOnStatus_of_channel_zero {c : Config} (h : c.midiChannel = 0) : noteOnStatus c = 0x90 := by
  rw [noteOnStatus, statusByte, h]
  rfl

/-- Key 0 at pitch 36 with MIDI_C0 = 60 is note 0x60 (R232). -/
theorem noteByte_zero {s : State} (hc0 : s.cfg.midiC0 = 60) (hp : s.pitch0 = 36) : noteByte s 0 = 0x60 := by
  rw [noteByte, hc0, hp]
  rfl

/-- The velocity byte of an event (R12, R233). -/
def velocityOf : KeyKind → Byte
  | .press => velOn
  | .release => velOff

theorem noteMsgBytes_singleton (s : State) (kind : KeyKind) (k : Nat) :
    noteMsgBytes s [(kind, k)] = statusPart s ++ [noteByte s k, velocityOf kind] := by
  rw [noteMsgBytes_of_ne_nil s (List.cons_ne_nil _ _)]
  cases kind with
  | press => exact List.append_nil _
  | release => exact congrArg (· ++ [noteByte s k, velOff]) (List.append_nil _)

theorem statusPart_sent {s : State}
    (h : s.cfg.runningStatusAcrossCycles = false ∨ s.laststatus ≠ noteOnStatus s.cfg) :
    statusPart s = [noteOnStatus s.cfg] := by
  rw [statusPart, if_neg]
  rintro ⟨hon, heq⟩
  rcases h with hoff | hne
  · cases hon.symm.trans hoff
  · exact hne heq

theorem statusPart_left_out {s : State} (hon : s.cfg.runningStatusAcrossCycles = true)
    (h : s.laststatus = noteOnStatus s.cfg) : statusPart s = [] := by
  rw [statusPart, if_pos ⟨hon, h⟩]

/-- After the note messages LASTSTATUS is NOTE_ON: it was sent, or left out because LASTSTATUS was NOTE_ON already (R234). -/
theorem laststatus_after_event {s : State} (hch : s.cfg.midiChannel = 0) (kind : KeyKind) :
    (statusPart s ++ [0x60, velocityOf kind]).foldl (fun l b => if 128 ≤ b.toNat then b else l) s.laststatus = 0x90 := by
  have hdata (l : Byte) : [0x60, velocityOf kind].foldl (fun l b => if 128 ≤ b.toNat then b else l) l = l := by
    cases kind <;> rfl
  rw [List.foldl_append, hdata, statusPart, noteOnStatus_of_channel_zero hch]
  split
  · exact And.right ‹_›
  · rfl

/-- `s` after a cycle that reports one event of key 0 and nothing else. -/
def afterEventZero (kind : KeyKind) (s : State) : State :=
  { s with
    serout := s.serout ++ (statusPart s ++ [0x60, velocityOf kind])
    laststatus := 0x90
    potchg := 0
    keyprev := s.keycur
    setprev := s.setcur }

theorem scanSync_of_event_zero {s : State} (hm : s.mode = .midi) (hq : s.scanq = []) (hc0 : s.cfg.midiC0 = 60)
    (hch : s.cfg.midiChannel = 0) (hp : s.pitch0 = 36) (hset : s.setcur = s.setprev) (hchg : s.potchg = 0)
    {kind : KeyKind} (hev : keyEvents s.cfg s.keycur s.keyprev = [(kind, 0)]) :
    scanSync s = .next (afterEventZero kind s) := by
  have hedges : settingsEdges s.setcur s.setprev = [] := by rw [hset, settingsEdges_self]
  rw [scanSync_midi hm hq, hev, noteMsgBytes_singleton, noteByte_zero hc0 hp, potMsgBytes_of_unchanged hchg,
    List.append_nil, laststatus_after_event hch, hedges]
  rfl

/-- The state in which the second cycle starts: key 0 went down in the first one and is up again. -/
def keyZeroUpAgain (s : State) (zs : List Byte) : State :=
  (afterEventZero .press (s.setKeycur (0x01 :: zs))).setKeycur (0x00 :: zs)

end Sys2Proof.Machine

namespace Sys2Proof

open Sys2Proof.Machine

/-- Settles O44: both cycles by `scanSync_midi`, the second from a LASTSTATUS of 0x90. -/
theorem pressAndReleaseAreFramedAsMidi : Obligations.PressAndReleaseAreFramedAsMidi := by
  intro s zs h hm hq hc0 hch hp hcur hprev hz hset hsetp hchg hlast
  have hk : 0 < s.cfg.keysNumber := Nat.lt_of_lt_of_le (by decide) h.facts.keysLo
  have hstatus : noteOnStatus s.cfg = 0x90 := noteOnStatus_of_channel_zero hch
  have hpress : keyEvents s.cfg (0x01 :: zs) s.keyprev = [(.press, 0)] := hprev ▸ keyEvents_press_zero hk hz
  have hfirst := scanSync_of_event_zero (s := s.setKeycur (0x01 :: zs)) hm hq hc0 hch hp (hset.trans hsetp.symm) hchg hpress
  have hsent : statusPart (s.setKeycur (0x01 :: zs)) = [0x90] :=
    (statusPart_sent (.inr (by simp [hlast, hstatus]))).trans (congrArg (fun b => [b]) hstatus)
  have hsecond := scanSync_of_event_zero (s := keyZeroUpAgain s zs) hm hq hc0 hch hp rfl rfl
    (keyEvents_release_zero hk hz)
  refine ⟨_, _, hfirst, congrArg (fun st => s.serout ++ (st ++ [0x60, 0x40])) hsent, hsecond,
    fun hoff => ?_, fun hon => ?_⟩
  · have hagain := statusPart_sent (s := keyZeroUpAgain s zs) (.inl hoff)
    exact congrArg (fun st => _ ++ (st ++ [0x60, 0x00])) (hagain.trans (congrArg (fun b => [b]) hstatus))
  · have hrunning := statusPart_left_out (s := keyZeroUpAgain s zs) hon hstatus.symm
    exact congrArg (fun st => _ ++ (st ++ [0x60, 0x00])) hrunning

end Sys2Proof
end
